-- ==== Sys2Proof/Word.lean ====
section
/-!
DEFINITION. The words of the HJ624's links: a byte, and a 16-bit field (R179).
-/

namespace Sys2Proof

/-- One byte of a link, a payload or the configuration memory. -/
abbrev Byte := BitVec 8

/-- A 16-bit field, sent most significant byte first (R179). -/
abbrev Half := BitVec 16

/-- A cell id (R1): any 16-bit value but `noCell` names one floor cell. -/
abbrev CellId := BitVec 16

/-- A station id as a frame carries it (R64, R69): 1..250 are valid. -/
abbrev StationId := BitVec 8

/-- NO_CELL (R1): it has no class and names no cell. -/
def noCell : CellId := 0xFFFF#16

end Sys2Proof
end

