-- ==== Sys2Proof/Syntax.lean ====
section
/-!
DEFINITION. The commands of the HJ624: one constructor for each row of spec/opcode_table.json.
Bytes that arrive on a link stand in the command as the link formats of spec/11 lay them out.
-/

namespace Sys2Proof

/-- The levels of the strap pins (R171): STATION_ID on 8 pins, VLEN on 2, LRATE on 2. -/
structure Straps where
  stationId : StationId
  vlen : BitVec 2
  lrate : BitVec 2
  deriving DecidableEq, Repr

/-- A command: an operation or event of the part, whole and indivisible (spec/95). -/
inductive Instr where
  /-- POWER_ON_RESET (R170): the release of power-on reset, with the strap levels at that moment. -/
  | powerOnReset (straps : Straps)
  /-- PIN_RESET (R170): the release of the reset pin, with the strap levels at that moment. -/
  | pinReset (straps : Straps)
  /-- CONFIGURATION_LOAD_END (R172, R184): `memory` is what the configuration memory answers, byte
  by byte from address 0; the access after its last byte is not acknowledged. -/
  | configurationLoadEnd (memory : List Byte)
  /-- LINK_RATE_CHANGE (R175). -/
  | linkRateChange
  /-- DRIVE_LINK_REQUEST_ARRIVAL (R156, R180): bytes that arrive on the drive link. -/
  | driveLinkRequestArrival (bytes : List Byte)
  /-- DRIVE_REPORT (R156, R167, R180): the arrival of one frame of type 0x20, its payload and the
  CRC-16 it carries. -/
  | driveReport (payload : List Byte) (crc : Half)
  /-- STATUS (R160). The payload of this and of every request below is the frame's payload. -/
  | status (payload : List Byte)
  /-- READ_CLAIMS (R161). -/
  | readClaims (payload : List Byte)
  /-- READ_PEER (R161): slot. -/
  | readPeer (payload : List Byte)
  /-- READ_COUNTERS (R162). -/
  | readCounters (payload : List Byte)
  /-- CLEAR_COUNTERS (R162). -/
  | clearCounters (payload : List Byte)
  /-- CLEAR_LATCHED (R163). -/
  | clearLatched (payload : List Byte)
  /-- APPEND_ROUTE (R8): 16 slots of 10 bytes. -/
  | appendRoute (payload : List Byte)
  /-- TRUNCATE_ROUTE (R12). -/
  | truncateRoute (payload : List Byte)
  /-- PROCEED (R17). -/
  | proceed (payload : List Byte)
  /-- SET_START (R36): route index and offset. -/
  | setStart (payload : List Byte)
  /-- SET_URGENCY (R58): value. -/
  | setUrgency (payload : List Byte)
  /-- PARK (R149). -/
  | park (payload : List Byte)
  /-- UNPARK (R150). -/
  | unpark (payload : List Byte)
  /-- RESUME (R147). -/
  | resume (payload : List Byte)
  /-- CLEAR_PEER (R81): station id. -/
  | clearPeer (payload : List Byte)
  /-- AIR_RESET (R135). -/
  | airReset (payload : List Byte)
  /-- SET_PARAM (R176): parameter id and value. -/
  | setParam (payload : List Byte)
  /-- SET_CLASS (R177): class index and the four fields of an entry. -/
  | setClass (payload : List Byte)
  /-- RESTART (R178). -/
  | restart (payload : List Byte)
  /-- UNKNOWN_REQUEST (R157): a taken request of a type that is not a request type. -/
  | unknownRequest (type : Byte) (payload : List Byte)
  /-- RESTART_TAKES_EFFECT (R178). -/
  | restartTakesEffect
  /-- TRANSMITTER_FRAME_SENT (R159). -/
  | transmitterFrameSent
  /-- BEACON_TIMER_EXPIRY (R127). -/
  | beaconTimerExpiry
  /-- TX_DONE (R131, R182): a modem frame of kind 0x02 with this body. -/
  | txDone (body : List Byte)
  /-- BEACON_TX_TIMEOUT (R133). -/
  | beaconTxTimeout
  /-- RX_FRAME (R134, R182): a modem frame of kind 0x03 with this body. -/
  | rxFrame (body : List Byte)
  /-- MODEM_FRAME_OTHER_KIND (R182): bytes that arrive from the modem. -/
  | modemFrameOtherKind (bytes : List Byte)
  /-- TRANSPONDER_READ (R31, R182): bytes that arrive on the reader line. -/
  | transponderRead (bytes : List Byte)
  /-- EXTERNAL_STOP_EDGE (R151): the level the external-stop input changes to. -/
  | externalStopEdge (asserted : Bool)
  /-- LISTEN_TIMER_EXPIRY (R141). -/
  | listenTimerExpiry
  /-- AUTHORITY_PERIOD_EXPIRY (R165). -/
  | authorityPeriodExpiry
  /-- SUPERVISION_EXPIRY (R168). -/
  | supervisionExpiry
  /-- YIELD_WINDOW_EXPIRY (R47) of the own claim on the route entry of this index. -/
  | yieldWindowExpiry (routeIndex : Nat)
  /-- ENTRY_HOLD_EXPIRY (R50) of the own claim on the route entry of this index. -/
  | entryHoldExpiry (routeIndex : Nat)
  /-- BACKOFF_EXPIRY (R57). -/
  | backoffExpiry
  /-- TABLE_OVERFLOW_HOLD_EXPIRY (R77). -/
  | tableOverflowHoldExpiry
  /-- PEER_STALE (R78) of the entry in this slot. -/
  | peerStale (slot : Nat)
  /-- PEER_EXPIRE (R79) of the entry in this slot. -/
  | peerExpire (slot : Nat)
  /-- RESET_PIN_ASSERTED (R170). -/
  | resetPinAsserted
  /-- POWER_LOSS (R139, R170). -/
  | powerLoss
  deriving DecidableEq, Repr

end Sys2Proof
end

