-- ==== Sys2Proof/Decode.lean ====
section
/-!
DEFINITION. The command a word of bits spells. No row of spec/opcode_table.json gives bits: commands
are arrivals, expiries and line changes, laid out as bytes by spec/11 where they come over a link.
-/

namespace Sys2Proof

/-- The command that a word spells by the table's bits: none, since no row gives bits. -/
def decodeTableWord (_nbits _w : Nat) : Option Instr := none

end Sys2Proof
end

