-- ==== Sys2Proof/Machine/Bits.lean ====
section
/-!
DEFINITION. Arithmetic of the manual's conventions (spec/00_scope.md), byte order (R179), the CRC-16
(R180) and the jitter generator's step (R125).
-/

namespace Sys2Proof.Machine

/-- `ceil(n / d)` in exact integer arithmetic (spec/00_scope.md). -/
def ceilDiv (n d : Nat) : Nat := (n + d - 1) / d

/-- A value clamped to the nearest limit of lo..hi (R2, R173). -/
def clampTo (lo hi v : Nat) : Nat := max lo (min hi v)

/-- An addition that saturates at `cap`. -/
def satAdd (cap a b : Nat) : Nat := min cap (a + b)

/-- The 16-bit field of two bytes, most significant first (R179). -/
def half (hi lo : Byte) : Half := hi ++ lo

/-- The value of four bytes, most significant first (R179). -/
def word32 (a b c d : Byte) : Nat := (a ++ b ++ c ++ d : BitVec 32).toNat

/-- A number as one byte. -/
def byteOf (n : Nat) : Byte := BitVec.ofNat 8 n

/-- A 16-bit field as two bytes, most significant first (R179). -/
def bytesOfHalf (h : Half) : List Byte := [h.extractLsb' 8 8, h.extractLsb' 0 8]

/-- A number as a 16-bit field. -/
def bytes16 (n : Nat) : List Byte := bytesOfHalf (BitVec.ofNat 16 n)

/-- A number as a 32-bit field that wraps (R180). -/
def bytes32 (n : Nat) : List Byte :=
  [byteOf (n / 16777216), byteOf (n / 65536), byteOf (n / 256), byteOf n]

/-- A signed number as four bytes in two's complement (R180). -/
def bytesInt32 (n : Int) : List Byte := bytes32 (n % 4294967296).toNat

/-- A flag as one bit of weight `w`. -/
def bit (w : Nat) (b : Bool) : Nat := if b then w else 0

/-- One shift of the CRC register (R180): polynomial 0x1021, most significant bit first. -/
def crcShift (r : Half) : Half := if r.msb then (r <<< 1) ^^^ 0x1021#16 else r <<< 1

/-- The CRC register after one more byte (R180). -/
def crcByte (r : Half) (b : Byte) : Half :=
  let x := r ^^^ (b ++ 0#8)
  crcShift (crcShift (crcShift (crcShift (crcShift (crcShift (crcShift (crcShift x)))))))

/-- The CRC-16 of R180: the register starts at 0xFFFF, with no reflection and no final inversion. -/
def crc16 (bytes : List Byte) : Half := bytes.foldl crcByte 0xFFFF#16

/-- One step of the jitter generator (R125): the exclusive-or of bits 0, 2, 3 and 5 enters as bit 15
while the register shifts towards its least significant end. -/
def jitterStep (r : Half) : Half :=
  let fed := r.getLsbD 0 ^^ r.getLsbD 2 ^^ r.getLsbD 3 ^^ r.getLsbD 5
  (r >>> 1) ||| (if fed then 0x8000#16 else 0#16)

/-- A jitter draw (R125): the register's value mod (BEACON_JITTER + 1). -/
def jitterDraw (r : Half) (beaconJitter : Nat) : Nat := r.toNat % (beaconJitter + 1)

end Sys2Proof.Machine
end

