-- ==== Sys2Proof/Config.lean ====
section
/-!
DEFINITION. What the part fixes, as the tables of the manual give it, and the one value the manual
leaves open.
-/

namespace Sys2Proof.Config

/-- The choice among steps that are due at one moment (R101, R121, R153, R169 allow either order):
a FREE VALUE, read at the counter `State.freeCount`. DESIGN CHOICE, safe (notes/assumptions/2.md). -/
opaque tieBreak : Nat → Nat

/-- The route ring holds at most 64 live entries (R6). -/
def maxLiveEntries : Nat := 64
/-- A route block has exactly 16 slots (R8). -/
def blockSlots : Nat := 16
/-- The highest route index (R6). -/
def maxRouteIndex : Nat := 65535
/-- The own claim list holds at most 12 claims (R38). -/
def maxClaims : Nat := 12
/-- Fewer than 3 claims may be TENTATIVE when one more is made (R44). -/
def maxTentative : Nat := 3
/-- The peer table has 24 slots (R64). -/
def peerSlots : Nat := 24
/-- The request intake holds at most 4 requests (R154). -/
def maxIntake : Nat := 4
/-- The notice queue holds at most 8 notices (R164). -/
def maxNotices : Nat := 8
/-- The outstanding list holds at most 2 entries (R154). -/
def maxOutstanding : Nat := 2
/-- The uncertainty is capped at 300 cm (R22). -/
def maxUncertainty : Nat := 300
/-- The highest reported speed the part keeps, in cm/s (R26). -/
def maxReportSpeed : Nat := 1200
/-- The longest plausible distance of one report, in cm (R27). -/
def maxReportDistance : Nat := 2000
/-- Counters and the distance since fix saturate here (R20, R162). -/
def saturation : Nat := 65535
/-- The limit of a confirmation, in ms (R133). -/
def txLimitMs : Nat := 150

end Sys2Proof.Config
end

