-- ==== Sys2Proof/Machine/State.lean ====
section
/-!
DEFINITION. The state of the HJ624, block by block as spec/00_scope.md names them, as plain data, and
the state right after reset. Times are values of the millisecond time base; a running timer holds
the time at which it expires.
-/

namespace Sys2Proof.Machine

/-- Why the part stops with a fault. It has no constructor: no rule of the manual leaves a step of
the part without an effect, so no command faults. -/
inductive Fault where
  deriving DecidableEq, Repr

/-- Why a command is refused. -/
inductive Refusal where
  /-- Raised by an arm of `exec` whose command has no meaning yet; no arm does. Safe. -/
  | notModelled (mnemonic : String)
  deriving DecidableEq, Repr

/-! ### Names of the manual -/

/-- The station modes (R137). -/
inductive Mode where
  | init | listen | serving | parked | stopped
  deriving DecidableEq, Repr

/-- Why the station remains in INIT (R137). -/
inductive InitFault where
  | none | configBad | badId
  deriving DecidableEq, Repr

/-- The nine stop causes (R137, section 8.4). -/
inductive Cause where
  | external | driveSilent | overrun | positionLost | offRoute | airFault | startConflict
  | duplicateId | collisionRisk
  deriving DecidableEq, Repr

/-- The route states (R6). -/
inductive RouteState where
  | empty | active | truncating
  deriving DecidableEq, Repr

/-- The states of a claim (R39). -/
inductive ClaimState where
  | tentative | held | occupied
  deriving DecidableEq, Repr

/-- The age states of a peer entry (R65). -/
inductive AgeState where
  | fresh | stale
  deriving DecidableEq, Repr

/-- The result codes, in the order that numbers them on the link (R157, R180). -/
inductive ResultCode where
  | done | doneClamped | accepted | busy | notReady | modeRefused | malformed | routeRepeat
  | routeFull | noRoute | badPosition | rearOutside | noStopPoint | moving | causeActive
  | peerFresh | noSuchPeer | locked | unknownRequest
  deriving DecidableEq, Repr

/-- The four link rates (R170, R171). -/
inductive LinkRate where
  | b115200 | b230400 | b460800 | b921600
  deriving DecidableEq, Repr

/-- The levels of the stop line (R139). -/
inductive StopLine where
  | asserted | released
  deriving DecidableEq, Repr

/-! ### Route Store (R4, R6) -/

/-- A route position (route index, offset in cm). -/
structure RoutePos where
  index : Nat
  offset : Nat
  deriving DecidableEq, Repr

/-- A live route entry (R4), with the released mark of its stop point (R6). -/
structure RouteEntry where
  cell : CellId
  length : Nat
  cap : Option Nat
  stop : Option Nat
  crane : Option Nat
  released : Bool
  deriving DecidableEq, Repr

/-- The Route Store (R6). Indices of live entries are consecutive and end at `nextIndex - 1`, so
the list and the next index give each entry its index. -/
structure RouteStore where
  entries : List RouteEntry
  nextIndex : Nat
  state : RouteState
  deriving DecidableEq, Repr

/-! ### Position Unit (R20) -/

/-- The Position Unit (R20). -/
structure PositionUnit where
  start : Bool
  pos : Option RoutePos
  base : Nat
  sinceFix : Nat
  offRoute : Nat
  speed : Nat
  deriving DecidableEq, Repr

/-! ### Claim Engine (R38 to R40) -/

/-- An own claim (R39). `identity` is unique to the record (R42); the two timers hold their expiry
time while they run. -/
structure Claim where
  identity : Nat
  index : Nat
  cell : CellId
  state : ClaimState
  announce : Nat
  firstAnnounce : Option Nat
  heldSince : Option Nat
  crane : Option Nat
  yieldTimer : Option Nat
  holdTimer : Option Nat
  deriving DecidableEq, Repr

/-- The Claim Engine (R38, R40). `nextIdentity` is the model's own (notes/assumptions/20.md). -/
structure ClaimEngine where
  list : List Claim
  deferral : Nat
  urgency : Nat
  backoff : Option Nat
  nextIdentity : Nat
  deriving DecidableEq, Repr

/-! ### Peer Table (R64 to R66) -/

/-- A claim of a peer's claim set (R66). -/
structure PeerClaim where
  cell : CellId
  state : ClaimState
  crane : Option Nat
  deriving DecidableEq, Repr

/-- A peer entry (R65). -/
structure PeerEntry where
  id : StationId
  seq : Byte
  mode : Mode
  urgency : Nat
  deferral : Nat
  posCell : CellId
  posOffset : Nat
  speed : Nat
  age : AgeState
  lastHeard : Nat
  claims : List PeerClaim
  deriving DecidableEq, Repr

/-- The Peer Table (R64): its slots in slot order, and the table-overflow hold (R77). -/
structure PeerTable where
  slots : List (Option PeerEntry)
  hold : Option Nat
  deriving DecidableEq, Repr

/-! ### Authority Unit (R103) -/

/-- The authority record (R103). -/
structure AuthorityUnit where
  length : Nat
  point : Option RoutePos
  ceiling : Nat
  overrun : Bool
  deriving DecidableEq, Repr

/-! ### Beacon Unit (R123) -/

/-- The in-flight record (R123). -/
structure InFlight where
  seq : Byte
  handedAt : Nat
  identities : List Nat
  completing : Bool
  deriving DecidableEq, Repr

/-- The Beacon Unit (R123). `rx` is the part of a modem frame received so far (R135, R182). `handed` is
the air port's output: the TX_FRAME last handed to the modem, byte for byte (R129, R136, R182;
notes/assumptions/28.md). -/
structure BeaconUnit where
  timer : Option Nat
  jitter : Half
  seq : Byte
  parkedCount : Nat
  inFlight : Option InFlight
  failures : Nat
  lastPayload : Option (List Byte)
  rx : List Byte
  handed : Option (List Byte)
  deriving DecidableEq, Repr

/-! ### Mode Controller (R137) -/

/-- The stop-cause set (R137): any subset of the nine causes. -/
structure CauseSet where
  external : Bool
  driveSilent : Bool
  overrun : Bool
  positionLost : Bool
  offRoute : Bool
  airFault : Bool
  startConflict : Bool
  duplicateId : Bool
  collisionRisk : Bool
  deriving DecidableEq, Repr

/-- The empty stop-cause set. -/
def CauseSet.none : CauseSet :=
  ⟨false, false, false, false, false, false, false, false, false⟩

/-- The Mode Controller (R137). `listenFrom` is the time of entry into LISTEN while the listen timer
runs: LISTEN_MS is read against it at each moment (R141). `line` is the stop line (R139). -/
structure ModeController where
  mode : Mode
  initFault : InitFault
  causes : CauseSet
  first : Option Cause
  markPositionLost : Bool
  markOffRoute : Bool
  markAirFault : Bool
  listenFrom : Option Nat
  listenDone : Bool
  external : Bool
  line : StopLine
  deriving DecidableEq, Repr

/-! ### Drive Link Unit (R154) -/

/-- A drive link frame that passed its checks (R156): type and payload. -/
structure Frame where
  type : Byte
  payload : List Byte
  deriving DecidableEq, Repr

/-- A notice (R164). The mode of a STOPPED notice is absent only within the handling of the event
that queued it: it is filled in when that handling is complete. -/
inductive Notice where
  | stopped (cause : Cause) (mode : Option Mode)
  | peerLost (id : StationId) (occupied : Nat) (evicted : Bool)
  | lateContest (id : StationId) (cell : CellId) (state : ClaimState) (yielded : Bool)
  | mutualBlock (id : StationId) (released : Bool)
  | fixDisagreement (cell : CellId) (correction : Int) (u : Nat)
  deriving DecidableEq, Repr

/-- An AUTHORITY message (R165). -/
structure AuthorityMessage where
  seq : Byte
  mode : Mode
  route : RouteState
  length : Nat
  point : Option RoutePos
  ceiling : Nat
  overrun : Bool
  stop : Option RoutePos
  first : Option Cause
  deriving DecidableEq, Repr

/-- An item of the outgoing order (R159). -/
inductive OutItem where
  | response (type : Byte) (code : ResultCode) (result : List Byte)
  | authority (m : AuthorityMessage)
  | notice (n : Notice)
  deriving DecidableEq, Repr

/-- An entry of the outstanding list (R154). -/
structure Outstanding where
  seq : Byte
  issued : Nat
  deriving DecidableEq, Repr

/-- The eight latched flags (R163). -/
structure Latched where
  lateContest : Bool
  mutualBlock : Bool
  tableOverflow : Bool
  configWriteRefused : Bool
  fixDisagreement : Bool
  noticeOverflow : Bool
  unmatchedReport : Bool
  clampedReport : Bool
  deriving DecidableEq, Repr

/-- Every latched flag clear. -/
def Latched.clear : Latched := ⟨false, false, false, false, false, false, false, false⟩

/-- The fourteen counters, in the order of the table of R162. -/
structure Counters where
  beaconsSent : Nat
  beaconsDropped : Nat
  beaconPeriodsSkipped : Nat
  beaconsHeard : Nat
  beaconsRejected : Nat
  yields : Nat
  lateContests : Nat
  missedFixes : Nat
  offWindowReads : Nat
  supervisionExpiries : Nat
  unmatchedReports : Nat
  tableOverflows : Nat
  ignoredReads : Nat
  linkFramesRejected : Nat
  deriving DecidableEq, Repr

/-- Every counter 0. -/
def Counters.zero : Counters := ⟨0, 0, 0, 0, 0, 0, 0, 0, 0, 0, 0, 0, 0, 0⟩

/-- The Drive Link Unit (R154). The notice queue is the notices of `outgoing`. `transmitting` is the
frame the transmitter has begun (R159). `rx` is the part of a frame received so far and `rxCut` says
that its reception was under way at a change of link rate (R175, R180). `restartDue` says that the
response of a RESTART has been sent and its reset is to take effect (R178). -/
structure DriveLink where
  intake : List Frame
  outgoing : List OutItem
  transmitting : Option OutItem
  outstanding : List Outstanding
  pendingIssue : Bool
  authSeq : Byte
  lastSent : Option Byte
  authTimer : Option Nat
  latched : Latched
  counters : Counters
  lastResult : Option (Byte × ResultCode)
  rx : List Byte
  rxCut : Bool
  restartDue : Bool
  deriving DecidableEq, Repr

/-! ### Configuration Loader (R170) -/

/-- An entry of the class table (R2). -/
structure ClassEntry where
  speedCap : Nat
  craneSpot : Bool
  keepClear : Bool
  entryHold : Nat
  deriving DecidableEq, Repr

/-- The parameter set (R173), in the order of its table. -/
structure Params where
  vehicleLength : Nat
  decel : Nat
  reactionMs : Nat
  margin : Nat
  maxSpeed : Nat
  beaconPeriod : Nat
  beaconJitter : Nat
  yieldWindow : Nat
  peerStale : Nat
  peerExpire : Nat
  listenMs : Nat
  authPeriod : Nat
  superviseMs : Nat
  fixGapMax : Nat
  fixTol : Nat
  startUnc : Nat
  airFailLimit : Nat
  linkRate : Nat
  deriving DecidableEq, Repr

/-- The Configuration Loader (R170). `pendingRate` is a link rate that waits for the transmitter
(R175); `loading` says that the configuration load is in progress (R172). -/
structure ConfigLoader where
  straps : Straps
  params : Params
  classes : List ClassEntry
  horizon : Nat
  linkRate : LinkRate
  pendingRate : Option LinkRate
  ready : Bool
  defaults : Bool
  clamped : Bool
  loading : Bool
  deriving DecidableEq, Repr

/-! ### The machine -/

/-- The state of the part. `readerRx` is the part of a reader frame received so far (R182), `extPin`
the level of the external-stop pin, `resetPin` and `supplyLost` the two things that hold the part in
reset (R170), `now` the millisecond time base. `pending` and `freeCount` are the model's own: the
queue of waiting commands, and the counter the free choice of `Config.tieBreak` reads. -/
structure State where
  route : RouteStore
  pos : PositionUnit
  claims : ClaimEngine
  peers : PeerTable
  auth : AuthorityUnit
  beacon : BeaconUnit
  ctl : ModeController
  link : DriveLink
  config : ConfigLoader
  readerRx : List Byte
  extPin : Bool
  resetPin : Bool
  supplyLost : Bool
  now : Nat
  pending : List Instr
  freeCount : Nat
  deriving DecidableEq, Repr

/-! ### Reset values, block by block -/

/-- The Route Store after reset (R7). -/
def RouteStore.reset : RouteStore := ⟨[], 0, .empty⟩

/-- The Position Unit after reset (R21). -/
def PositionUnit.reset : PositionUnit := ⟨false, none, 0, 0, 0, 0⟩

/-- The Claim Engine after reset (R41). DESIGN CHOICE: `nextIdentity` (notes/assumptions/20.md). -/
def ClaimEngine.reset : ClaimEngine := ⟨[], 0, 0, none, 0⟩

/-- The Peer Table after reset (R68). -/
def PeerTable.reset : PeerTable := ⟨List.replicate Config.peerSlots none, none⟩

/-- The authority record after reset (R103). -/
def AuthorityUnit.reset : AuthorityUnit := ⟨0, none, 0, false⟩

/-- The Beacon Unit after reset (R124): the jitter generator is seeded with the latched station id
multiplied by 257. DESIGN CHOICE: the receiver is empty (notes/assumptions/9.md), and no frame has been
handed over (28.md). -/
def BeaconUnit.reset (id : StationId) : BeaconUnit where
  timer := none
  jitter := BitVec.ofNat 16 (id.toNat * 257)
  seq := 0#8
  parkedCount := 0
  inFlight := none
  failures := 0
  lastPayload := none
  rx := []
  handed := none

/-- The Mode Controller after reset (R138, R139). DESIGN CHOICE: the external input level, which is
not taken in INIT, stands at released (notes/assumptions/5.md). -/
def ModeController.reset : ModeController where
  mode := .init
  initFault := .none
  causes := .none
  first := none
  markPositionLost := false
  markOffRoute := false
  markAirFault := false
  listenFrom := none
  listenDone := false
  external := false
  line := .asserted

/-- The Drive Link Unit after reset (R155). -/
def DriveLink.reset : DriveLink where
  intake := []
  outgoing := []
  transmitting := none
  outstanding := []
  pendingIssue := false
  authSeq := 0#8
  lastSent := none
  authTimer := none
  latched := .clear
  counters := .zero
  lastResult := none
  rx := []
  rxCut := false
  restartDue := false

/-- The class table's built-in defaults (R3). -/
def ClassEntry.defaults : List ClassEntry :=
  [⟨1000, false, false, 0⟩, ⟨400, false, false, 0⟩, ⟨600, false, true, 200⟩, ⟨300, true, false, 0⟩]
    ++ List.replicate 12 ⟨1000, false, false, 0⟩

/-- The default of VEHICLE_LENGTH that VLEN gives (R171). -/
def vlenDefault (v : BitVec 2) : Nat := 900 + 150 * v.toNat

/-- The link rate a value 0..3 selects (R184); LRATE gives it in the same order (R171). -/
def LinkRate.ofCode : Nat → LinkRate
  | 0 => .b115200
  | 1 => .b230400
  | 2 => .b460800
  | _ => .b921600

/-- The parameter set's defaults (R173). -/
def Params.defaults (straps : Straps) : Params where
  vehicleLength := vlenDefault straps.vlen
  decel := 120
  reactionMs := 500
  margin := 150
  maxSpeed := 800
  beaconPeriod := 200
  beaconJitter := 40
  yieldWindow := 600
  peerStale := 1000
  peerExpire := 20000
  listenMs := 2000
  authPeriod := 100
  superviseMs := 250
  fixGapMax := 4000
  fixTol := 50
  startUnc := 100
  airFailLimit := 5
  linkRate := straps.lrate.toNat

/-- The Configuration Loader at the release of reset (R170): the load begins. -/
def ConfigLoader.reset (straps : Straps) : ConfigLoader where
  straps := straps
  params := .defaults straps
  classes := ClassEntry.defaults
  horizon := 3217
  linkRate := .ofCode straps.lrate.toNat
  pendingRate := none
  ready := false
  defaults := false
  clamped := false
  loading := true

/-- The machine right after the release of power-on reset (R170). The spec leaves the strap levels
to the board, the time base and the external input to the outside; DESIGN CHOICE for each:
STATION_ID 1, VLEN 0, LRATE 0 (notes/assumptions/3.md), time 0 (4.md), input released (5.md). -/
def State.reset : State where
  route := .reset
  pos := .reset
  claims := .reset
  peers := .reset
  auth := .reset
  beacon := .reset 1#8
  ctl := .reset
  link := .reset
  config := .reset ⟨1#8, 0#2, 0#2⟩
  readerRx := []
  extPin := false
  resetPin := false
  supplyLost := false
  now := 0
  pending := []
  freeCount := 0

end Sys2Proof.Machine
end

