-- ==== Sys2Proof/Machine/Flags.lean ====
section
/-!
DEFINITION. The fourteen counters (R162), the eight latched flags (R163), the stop-cause set and the
number codes of R180 for modes, states, causes and results.
-/

namespace Sys2Proof.Machine

/-! ### Counters (R162) -/

/-- The names of the counters, in the order of the table of R162. -/
inductive Counter where
  | beaconsSent | beaconsDropped | beaconPeriodsSkipped | beaconsHeard | beaconsRejected | yields
  | lateContests | missedFixes | offWindowReads | supervisionExpiries | unmatchedReports
  | tableOverflows | ignoredReads | linkFramesRejected
  deriving DecidableEq, Repr

/-- A count adds 1 and leaves the counter at 65535 once it has reached that value (R162). -/
def countUp (n : Nat) : Nat := satAdd Config.saturation n 1

/-- The counters after one count of `c`. -/
def Counters.bump (k : Counters) : Counter → Counters
  | .beaconsSent => { k with beaconsSent := countUp k.beaconsSent }
  | .beaconsDropped => { k with beaconsDropped := countUp k.beaconsDropped }
  | .beaconPeriodsSkipped => { k with beaconPeriodsSkipped := countUp k.beaconPeriodsSkipped }
  | .beaconsHeard => { k with beaconsHeard := countUp k.beaconsHeard }
  | .beaconsRejected => { k with beaconsRejected := countUp k.beaconsRejected }
  | .yields => { k with yields := countUp k.yields }
  | .lateContests => { k with lateContests := countUp k.lateContests }
  | .missedFixes => { k with missedFixes := countUp k.missedFixes }
  | .offWindowReads => { k with offWindowReads := countUp k.offWindowReads }
  | .supervisionExpiries => { k with supervisionExpiries := countUp k.supervisionExpiries }
  | .unmatchedReports => { k with unmatchedReports := countUp k.unmatchedReports }
  | .tableOverflows => { k with tableOverflows := countUp k.tableOverflows }
  | .ignoredReads => { k with ignoredReads := countUp k.ignoredReads }
  | .linkFramesRejected => { k with linkFramesRejected := countUp k.linkFramesRejected }

/-- The counters as a list, in the order of the table of R162. -/
def Counters.toList (k : Counters) : List Nat :=
  [k.beaconsSent, k.beaconsDropped, k.beaconPeriodsSkipped, k.beaconsHeard, k.beaconsRejected,
    k.yields, k.lateContests, k.missedFixes, k.offWindowReads, k.supervisionExpiries,
    k.unmatchedReports, k.tableOverflows, k.ignoredReads, k.linkFramesRejected]

/-- A block counts through the Drive Link Unit (R162). -/
def State.count (s : State) (c : Counter) : State :=
  { s with link := { s.link with counters := s.link.counters.bump c } }

/-! ### Latched flags (R163) -/

/-- The names of the latched flags, in the order of the table of R163. -/
inductive Flag where
  | lateContest | mutualBlock | tableOverflow | configWriteRefused | fixDisagreement
  | noticeOverflow | unmatchedReport | clampedReport
  deriving DecidableEq, Repr

/-- The flags with `f` set. -/
def Latched.set (l : Latched) : Flag → Latched
  | .lateContest => { l with lateContest := true }
  | .mutualBlock => { l with mutualBlock := true }
  | .tableOverflow => { l with tableOverflow := true }
  | .configWriteRefused => { l with configWriteRefused := true }
  | .fixDisagreement => { l with fixDisagreement := true }
  | .noticeOverflow => { l with noticeOverflow := true }
  | .unmatchedReport => { l with unmatchedReport := true }
  | .clampedReport => { l with clampedReport := true }

/-- The flags as one byte: bits 0 to 7 in the order of the table of R163 (R180). -/
def Latched.toNat (l : Latched) : Nat :=
  bit 1 l.lateContest + bit 2 l.mutualBlock + bit 4 l.tableOverflow + bit 8 l.configWriteRefused
    + bit 16 l.fixDisagreement + bit 32 l.noticeOverflow + bit 64 l.unmatchedReport
    + bit 128 l.clampedReport

/-- A block latches a flag (R163). -/
def State.latch (s : State) (f : Flag) : State :=
  { s with link := { s.link with latched := s.link.latched.set f } }

/-! ### Stop causes (R137, R143) -/

/-- Is a cause in the set? -/
def CauseSet.has (k : CauseSet) : Cause → Bool
  | .external => k.external
  | .driveSilent => k.driveSilent
  | .overrun => k.overrun
  | .positionLost => k.positionLost
  | .offRoute => k.offRoute
  | .airFault => k.airFault
  | .startConflict => k.startConflict
  | .duplicateId => k.duplicateId
  | .collisionRisk => k.collisionRisk

/-- The set with a cause added (R143). -/
def CauseSet.add (k : CauseSet) : Cause → CauseSet
  | .external => { k with external := true }
  | .driveSilent => { k with driveSilent := true }
  | .overrun => { k with overrun := true }
  | .positionLost => { k with positionLost := true }
  | .offRoute => { k with offRoute := true }
  | .airFault => { k with airFault := true }
  | .startConflict => { k with startConflict := true }
  | .duplicateId => { k with duplicateId := true }
  | .collisionRisk => { k with collisionRisk := true }

/-- The nine causes, in the order of their number codes (R180). -/
def Cause.all : List Cause :=
  [.external, .driveSilent, .overrun, .positionLost, .offRoute, .airFault, .startConflict,
    .duplicateId, .collisionRisk]

/-- Is the set empty? -/
def CauseSet.isEmpty (k : CauseSet) : Bool := Cause.all.all fun c => !k.has c

/-! ### Number codes (R180) -/

/-- The number of a mode. -/
def Mode.code : Mode → Nat
  | .init => 0 | .listen => 1 | .serving => 2 | .parked => 3 | .stopped => 4

/-- The mode a beacon's mode field names (R69, check 3): INIT is not one of them. -/
def Mode.ofBeacon (b : Byte) : Option Mode :=
  match b.toNat with
  | 1 => some .listen | 2 => some .serving | 3 => some .parked | 4 => some .stopped
  | _ => none

/-- The number of a route state. -/
def RouteState.code : RouteState → Nat
  | .empty => 0 | .active => 1 | .truncating => 2

/-- The number of a claim state. -/
def ClaimState.code : ClaimState → Nat
  | .tentative => 1 | .held => 2 | .occupied => 3

/-- The claim state a number names (R69, check 3). -/
def ClaimState.ofByte (b : Byte) : Option ClaimState :=
  match b.toNat with
  | 1 => some .tentative | 2 => some .held | 3 => some .occupied
  | _ => none

/-- The number of a cause. -/
def Cause.code : Cause → Nat
  | .external => 1 | .driveSilent => 2 | .overrun => 3 | .positionLost => 4 | .offRoute => 5
  | .airFault => 6 | .startConflict => 7 | .duplicateId => 8 | .collisionRisk => 9

/-- A cause set as a field: cause k at bit k - 1. -/
def CauseSet.toNat (k : CauseSet) : Nat :=
  bit 1 k.external + bit 2 k.driveSilent + bit 4 k.overrun + bit 8 k.positionLost
    + bit 16 k.offRoute + bit 32 k.airFault + bit 64 k.startConflict + bit 128 k.duplicateId
    + bit 256 k.collisionRisk

/-- The number of an init fault in STATUS. -/
def InitFault.code : InitFault → Nat
  | .none => 0 | .configBad => 1 | .badId => 2

/-- The number of an age state in READ_PEER. -/
def AgeState.code : AgeState → Nat
  | .fresh => 0 | .stale => 1

/-- The number of a result code, 1 to 19 in the order of the table of R157. -/
def ResultCode.code : ResultCode → Nat
  | .done => 1 | .doneClamped => 2 | .accepted => 3 | .busy => 4 | .notReady => 5
  | .modeRefused => 6 | .malformed => 7 | .routeRepeat => 8 | .routeFull => 9 | .noRoute => 10
  | .badPosition => 11 | .rearOutside => 12 | .noStopPoint => 13 | .moving => 14
  | .causeActive => 15 | .peerFresh => 16 | .noSuchPeer => 17 | .locked => 18
  | .unknownRequest => 19

end Sys2Proof.Machine
end

