-- ==== Sys2Proof/Machine/Operands.lean ====
section
/-!
DEFINITION. The operands of commands as the link formats lay them out: the slots of a route block
(R4, R8, R180), the parameters and their ranges (R173), class entries (R177, R183), the configuration
record (R183, R184), and a received beacon (R181).
-/

namespace Sys2Proof.Machine

/-! ### Route blocks (R4, R8, R180) -/

/-- A slot of a route block as received: an absent stop offset is `none`. -/
structure RouteSlot where
  cell : CellId
  length : Nat
  cap : Option Nat
  stop : Option Nat
  crane : Option Nat
  deriving DecidableEq, Repr

/-- A field whose value `gone` stands for its absence (R179). -/
def optionalField (gone : Nat) (h : Half) : Option Nat :=
  if h.toNat = gone then none else some h.toNat

/-- The slots of a route block: 10 bytes each, up to the last whole slot (R180). -/
def routeSlots : List Byte → List RouteSlot
  | c1 :: c0 :: l1 :: l0 :: v1 :: v0 :: o1 :: o0 :: q1 :: q0 :: rest =>
    { cell := half c1 c0
      length := (half l1 l0).toNat
      cap := optionalField 0 (half v1 v0)
      stop := optionalField 65535 (half o1 o0)
      crane := optionalField 0 (half q1 q0) } :: routeSlots rest
  | _ => []

/-- Does a real entry satisfy every condition of R4? `craneSpot` is the crane-spot field of its
cell's class at this time. -/
def RouteSlot.valid (x : RouteSlot) (craneSpot : Bool) : Bool :=
  decide (300 ≤ x.length ∧ x.length ≤ 3000)
    && (match x.cap with | none => true | some v => decide (50 ≤ v ∧ v ≤ 1000))
    && (match x.stop with | none => true | some o => decide (o < x.length))
    && (match x.crane with | none => true | some _ => craneSpot)

/-- The real entries of a block: the slots before the first NO_CELL slot (R8). -/
def realSlots (block : List RouteSlot) : List RouteSlot :=
  block.takeWhile fun x => x.cell != noCell

/-- Check 3 of R8: at least one real entry, none after a NO_CELL slot. -/
def blockInOrder (block : List RouteSlot) : Bool :=
  !(realSlots block).isEmpty
    && (block.drop (realSlots block).length).all fun x => x.cell == noCell

/-- Does no cell id appear twice? -/
def noRepeat : List CellId → Bool
  | [] => true
  | c :: cs => !cs.contains c && noRepeat cs

/-- The route entry a real slot becomes, its stop point unreleased (R9). -/
def RouteSlot.entry (x : RouteSlot) : RouteEntry :=
  ⟨x.cell, x.length, x.cap, x.stop, x.crane, false⟩

/-! ### Parameters (R173) -/

/-- The parameters, in the order that gives their ids 1 to 18 (R180). -/
inductive ParamId where
  | vehicleLength | decel | reactionMs | margin | maxSpeed | beaconPeriod | beaconJitter
  | yieldWindow | peerStale | peerExpire | listenMs | authPeriod | superviseMs | fixGapMax
  | fixTol | startUnc | airFailLimit | linkRate
  deriving DecidableEq, Repr

/-- The parameter of an id (R180); none for 0 and above 18. -/
def ParamId.ofByte (b : Byte) : Option ParamId :=
  match b.toNat with
  | 1 => some .vehicleLength | 2 => some .decel | 3 => some .reactionMs | 4 => some .margin
  | 5 => some .maxSpeed | 6 => some .beaconPeriod | 7 => some .beaconJitter
  | 8 => some .yieldWindow | 9 => some .peerStale | 10 => some .peerExpire
  | 11 => some .listenMs | 12 => some .authPeriod | 13 => some .superviseMs
  | 14 => some .fixGapMax | 15 => some .fixTol | 16 => some .startUnc
  | 17 => some .airFailLimit | 18 => some .linkRate
  | _ => none

/-- The range of a parameter (R173). -/
def ParamId.range : ParamId → Nat × Nat
  | .vehicleLength => (800, 1600)
  | .decel => (50, 300)
  | .reactionMs => (0, 1000)
  | .margin => (0, 500)
  | .maxSpeed => (100, 1000)
  | .beaconPeriod => (100, 500)
  | .beaconJitter => (0, 100)
  | .yieldWindow => (400, 3000)
  | .peerStale => (500, 5000)
  | .peerExpire => (5000, 120000)
  | .listenMs => (500, 10000)
  | .authPeriod => (50, 500)
  | .superviseMs => (50, 1000)
  | .fixGapMax => (1000, 10000)
  | .fixTol => (20, 200)
  | .startUnc => (0, 300)
  | .airFailLimit => (2, 20)
  | .linkRate => (0, 3)

/-- The parameter set with one value stored. -/
def Params.put (p : Params) (v : Nat) : ParamId → Params
  | .vehicleLength => { p with vehicleLength := v }
  | .decel => { p with decel := v }
  | .reactionMs => { p with reactionMs := v }
  | .margin => { p with margin := v }
  | .maxSpeed => { p with maxSpeed := v }
  | .beaconPeriod => { p with beaconPeriod := v }
  | .beaconJitter => { p with beaconJitter := v }
  | .yieldWindow => { p with yieldWindow := v }
  | .peerStale => { p with peerStale := v }
  | .peerExpire => { p with peerExpire := v }
  | .listenMs => { p with listenMs := v }
  | .authPeriod => { p with authPeriod := v }
  | .superviseMs => { p with superviseMs := v }
  | .fixGapMax => { p with fixGapMax := v }
  | .fixTol => { p with fixTol := v }
  | .startUnc => { p with startUnc := v }
  | .airFailLimit => { p with airFailLimit := v }
  | .linkRate => { p with linkRate := v }

/-- A value clamped to its parameter's range (R173). -/
def ParamId.clamp (i : ParamId) (v : Nat) : Nat := clampTo i.range.1 i.range.2 v

/-- The raises of R174, in its order, and whether any was made. -/
def raiseFloors (p : Params) : Params × Bool :=
  let yield := max p.yieldWindow (2 * p.beaconPeriod + p.beaconJitter + 50)
  let stale := max p.peerStale (3 * p.beaconPeriod + p.beaconJitter + 50)
  let listen := max p.listenMs stale
  ({ p with yieldWindow := yield, peerStale := stale, listenMs := listen },
    decide (p.yieldWindow < yield ∨ p.peerStale < stale ∨ p.listenMs < listen))

/-! ### Class entries (R2, R177, R183) -/

/-- A class-table entry from its fields, clamped as R2 sets out, and whether a clamp was made. -/
def classEntry (cap : Half) (flags : Byte) (hold : Half) : ClassEntry × Bool :=
  let v := clampTo 50 1000 cap.toNat
  let h := clampTo 0 2000 hold.toNat
  (⟨v, flags.getLsbD 0, flags.getLsbD 1, h⟩, decide (v ≠ cap.toNat ∨ h ≠ hold.toNat))

/-! ### The configuration record (R172, R173, R183, R184) -/

/-- How a load ends, once the station id is valid: no record (outcomes 2 and 3 of R172), a fault
(outcomes 4 to 8), or a record to apply (outcome 9). -/
inductive LoadResult where
  | noRecord
  | bad
  | record (pairs : List (ParamId × Nat)) (classes : List (ClassEntry × Bool))
  deriving DecidableEq, Repr

/-- The (id, value) pairs of a record: `n` pairs of 5 bytes; none when an id is not in the table of
R173 (outcome 8). -/
def recordPairs : Nat → List Byte → Option (List (ParamId × Nat))
  | 0, _ => some []
  | n + 1, i :: a :: b :: c :: d :: rest =>
    match ParamId.ofByte i, recordPairs n rest with
    | some p, some ps => some ((p, word32 a b c d) :: ps)
    | _, _ => none
  | _ + 1, _ => none

/-- The class-table entries of a record: 5 bytes each (R183). -/
def recordClasses : Nat → List Byte → List (ClassEntry × Bool)
  | n + 1, c1 :: c0 :: f :: h1 :: h0 :: rest =>
    classEntry (half c1 c0) f (half h1 h0) :: recordClasses n rest
  | _, _ => []

/-- The load's reading of the configuration memory (R172, R184): `m` is what the memory answers, and
the access after its last byte is not acknowledged. -/
def readRecord (m : List Byte) : LoadResult :=
  match m with
  | [] => .noRecord
  | m1 :: m0 :: rest =>
    if half m1 m0 = 0xFFFF#16 then .noRecord
    else if half m1 m0 ≠ 0x4A36#16 then .bad
    else
      match rest with
      | l1 :: l0 :: p :: body =>
        if 18 < p.toNat ∨ (half l1 l0).toNat ≠ 87 + 5 * p.toNat then .bad
        else if body.length < 82 + 5 * p.toNat then .bad
        else
          let held := m.take (85 + 5 * p.toNat)
          if bytesOfHalf (crc16 held) ≠ (m.drop (85 + 5 * p.toNat)).take 2 then .bad
          else
            match recordPairs p.toNat body with
            | none => .bad
            | some ps => .record ps (recordClasses 16 (body.drop (5 * p.toNat)))
      | _ => .bad
  | _ => .bad

/-- The pairs of a record applied in the order it gives them (R173): the parameter set, and whether
a value needed clamping. -/
def applyPairs (p : Params) (pairs : List (ParamId × Nat)) : Params × Bool :=
  pairs.foldl (fun acc iv =>
    (acc.1.put (iv.1.clamp iv.2) iv.1, acc.2 || iv.1.clamp iv.2 != iv.2)) (p, false)

/-! ### A received beacon (R134, R181) -/

/-- A claim of a received beacon before its state is checked. -/
structure RawClaim where
  cell : CellId
  state : Byte
  crane : Option Nat
  deriving DecidableEq, Repr

/-- A received beacon payload, its fields unchecked (R181). -/
structure Beacon where
  id : StationId
  seq : Byte
  mode : Byte
  urgency : Nat
  deferral : Nat
  posCell : CellId
  posOffset : Nat
  speed : Nat
  claims : List RawClaim
  deriving DecidableEq, Repr

/-- The claims of a beacon: 5 bytes each (R181). -/
def rawClaims : Nat → List Byte → List RawClaim
  | n + 1, c1 :: c0 :: st :: q1 :: q0 :: rest =>
    ⟨half c1 c0, st, optionalField 0 (half q1 q0)⟩ :: rawClaims n rest
  | _, _ => []

/-- Checks 1 to 3 of R134 and the reading of the payload: beacon kind, length equal to 15 plus 5 for
each claim declared, and CRC. -/
def readBeacon (payload : List Byte) : Option Beacon :=
  match payload with
  | kind :: id :: seq :: mode :: urg :: dfr :: p1 :: p0 :: o1 :: o0 :: v1 :: v0 :: n :: rest =>
    if kind ≠ 0xB1#8 then none
    else if payload.length ≠ 15 + 5 * n.toNat then none
    else if bytesOfHalf (crc16 (payload.take (payload.length - 2)))
        ≠ payload.drop (payload.length - 2) then none
    else some
      { id := id, seq := seq, mode := mode, urgency := urg.toNat, deferral := dfr.toNat
        posCell := half p1 p0, posOffset := (half o1 o0).toNat, speed := (half v1 v0).toNat
        claims := rawClaims n.toNat rest }
  | _ => none

/-- The claim set of a beacon; none when a state is not TENTATIVE, HELD or OCCUPIED (R69, check 3). -/
def peerClaims : List RawClaim → Option (List PeerClaim)
  | [] => some []
  | c :: cs =>
    match ClaimState.ofByte c.state, peerClaims cs with
    | some st, some ps => some (⟨c.cell, st, c.crane⟩ :: ps)
    | _, _ => none

/-- Checks 1 to 4 of R69. They give the entry the beacon makes when it is heard at `now`: FRESH, its
speed saturated at 1200. -/
def checkBeacon (b : Beacon) (now : Nat) : Option PeerEntry :=
  if b.id.toNat < 1 ∨ 250 < b.id.toNat then none
  else if Config.maxClaims < b.claims.length then none
  else
    match Mode.ofBeacon b.mode, peerClaims b.claims with
    | some m, some cs =>
      if 3 < b.urgency ∨ 7 < b.deferral then none
      else if (b.claims.any fun c => c.cell == noCell) || !noRepeat (b.claims.map (·.cell)) then none
      else some
        { id := b.id, seq := b.seq, mode := m, urgency := b.urgency, deferral := b.deferral
          posCell := b.posCell, posOffset := b.posOffset
          speed := min Config.maxReportSpeed b.speed, age := .fresh, lastHeard := now, claims := cs }
    | _, _ => none

end Sys2Proof.Machine
end

