-- ==== Sys2Proof/Machine/Frames.lean ====
section
/-!
DEFINITION. Frames on the links (spec/11): drive link frames and their receiver (R180), the frames
the part sends on the drive link, modem frames and the air port's receiver (R182), reader frames
(R182), and the beacon payload the part builds (R181).
-/

namespace Sys2Proof.Machine

/-! ### Drive link frames (R180) -/

/-- A drive link frame: sync, type, length, payload, CRC-16 over type, length and payload. -/
def linkFrame (type : Byte) (payload : List Byte) : List Byte :=
  let covered := type :: byteOf payload.length :: payload
  0xA5#8 :: (covered ++ bytesOfHalf (crc16 covered))

/-- What the receiver makes of its bytes: a frame that passed, or a frame that failed. -/
inductive LinkEvent where
  | good (f : Frame)
  | failed
  deriving DecidableEq, Repr

/-- The first frame of bytes that begin after a sync byte (R180): `none` while bytes are missing;
otherwise the outcome and how many bytes after the sync byte a whole frame takes. -/
def linkHead (bytes : List Byte) : Option (LinkEvent × Nat) :=
  match bytes with
  | type :: n :: rest =>
    if 250 < n.toNat then some (.failed, 0)
    else if rest.length < n.toNat + 2 then none
    else
      let payload := rest.take n.toNat
      if bytesOfHalf (crc16 (type :: n :: payload)) ≠ (rest.drop n.toNat).take 2 then
        some (.failed, 0)
      else if type = 0x20#8 ∧ n.toNat ≠ 5 then some (.failed, 0)
      else some (.good ⟨type, payload⟩, n.toNat + 4)
  | _ => none

/-- The drive link receiver (R180) over the bytes it holds: the events in order, and the bytes kept
from the sync byte of a frame not yet whole. After a failed frame the hunt goes on from the byte
after its sync byte. `cut` says that the frame being received was cut by a change of link rate, and
so fails when it is whole (R175); the last component says whether that is still so. `fuel` bounds
the bytes looked at. -/
def linkScan : Nat → Bool → List Byte → List LinkEvent × List Byte × Bool
  | 0, cut, bytes => ([], bytes, cut)
  | _ + 1, _, [] => ([], [], false)
  | fuel + 1, cut, b :: bytes =>
    if b ≠ 0xA5#8 then linkScan fuel cut bytes
    else
      match linkHead bytes with
      | none => ([], b :: bytes, cut)
      | some (.good f, k) =>
        if cut then
          let r := linkScan fuel false bytes
          (.failed :: r.1, r.2)
        else
          let r := linkScan fuel false (bytes.drop k)
          (.good f :: r.1, r.2)
      | some (.failed, _) =>
        let r := linkScan fuel false bytes
        (.failed :: r.1, r.2)

/-! ### Frames from the part (R180) -/

/-- A route position as index and offset fields; an offset above 65535 is sent as 65535 (R180). -/
def posFields : Option RoutePos → List Byte
  | none => [0#8, 0#8, 0#8, 0#8]
  | some p => bytes16 p.index ++ bytes16 (min 65535 p.offset)

/-- A cause field, 0 when absent. -/
def causeField : Option Cause → Byte
  | none => 0#8
  | some c => byteOf c.code

/-- The payload of an AUTHORITY message, 17 bytes (R180). -/
def AuthorityMessage.payload (m : AuthorityMessage) : List Byte :=
  [m.seq, byteOf m.mode.code, byteOf m.route.code,
    byteOf (bit 1 m.point.isSome + bit 2 m.stop.isSome + bit 4 m.first.isSome + bit 8 m.overrun)]
    ++ bytes16 m.length ++ posFields m.point ++ bytes16 m.ceiling ++ posFields m.stop
    ++ [causeField m.first]

/-- The frame type of a notice (R180). -/
def Notice.type : Notice → Byte
  | .stopped .. => 0x90#8
  | .peerLost .. => 0x91#8
  | .lateContest .. => 0x92#8
  | .mutualBlock .. => 0x93#8
  | .fixDisagreement .. => 0x94#8

/-- The payload of a notice (R180). -/
def Notice.payload : Notice → List Byte
  | .stopped c m => [byteOf c.code, byteOf ((m.map Mode.code).getD 0)]
  | .peerLost id n e => [id, byteOf n, byteOf (bit 1 e)]
  | .lateContest id cell st y => [id] ++ bytesOfHalf cell ++ [byteOf st.code, byteOf (bit 1 y)]
  | .mutualBlock id r => [id, byteOf (bit 1 r)]
  | .fixDisagreement cell k u => bytesOfHalf cell ++ bytesInt32 k ++ bytes16 u

/-- The frame of an item of the outgoing order (R159, R180). -/
def OutItem.frame : OutItem → List Byte
  | .response ty code result => linkFrame 0x80#8 (ty :: byteOf code.code :: result)
  | .authority m => linkFrame 0x81#8 m.payload
  | .notice n => linkFrame n.type n.payload

/-! ### Modem frames (R182) -/

/-- A modem frame: start byte, kind, length, body. -/
def modemFrame (kind : Byte) (body : List Byte) : List Byte :=
  0x3C#8 :: kind :: byteOf body.length :: body

/-- What the air port's receiver makes of its bytes: a whole frame, or one given up because its
length is above 250. -/
inductive AirEvent where
  | frame (kind : Byte) (body : List Byte)
  | tooLong
  deriving DecidableEq, Repr

/-- The air port's receiver (R182) over the bytes it holds: the events in order, and the bytes kept
from the start byte of a frame not yet whole. DESIGN CHOICE: a length above 250 is given up, and then
counted once under BEACONS_REJECTED, whatever the kind, a TX_DONE frame's too, although R131 discards a
TX_DONE of another length without counting (notes/assumptions/30.md). -/
def airScan : Nat → List Byte → List AirEvent × List Byte
  | 0, bytes => ([], bytes)
  | _ + 1, [] => ([], [])
  | fuel + 1, b :: bytes =>
    if b ≠ 0x3C#8 then airScan fuel bytes
    else
      match bytes with
      | kind :: n :: rest =>
        if 250 < n.toNat then
          let r := airScan fuel bytes
          (.tooLong :: r.1, r.2)
        else if rest.length < n.toNat then ([], b :: bytes)
        else
          let r := airScan fuel (rest.drop n.toNat)
          (.frame kind (rest.take n.toNat) :: r.1, r.2)
      | _ => ([], b :: bytes)

/-- The TX_FRAME that hands a beacon to the modem, its tag the beacon's sequence (R129, R182). -/
def txFrame (seq : Byte) (payload : List Byte) : List Byte := modemFrame 0x01#8 (seq :: payload)

/-! ### Reader frames (R182) -/

/-- A reader frame: 0x52, the cell id, and the exclusive-or of the three bytes before. -/
def readerFrame (cell : CellId) : List Byte :=
  let hi := cell.extractLsb' 8 8
  let lo := cell.extractLsb' 0 8
  [0x52#8, hi, lo, 0x52#8 ^^^ hi ^^^ lo]

/-- The reader input (R182) over the bytes it holds: the cells of the good frames in order, and the
bytes kept. A frame whose check byte does not hold is discarded and the hunt resumes with the byte
after its 0x52. -/
def readerScan : Nat → List Byte → List CellId × List Byte
  | 0, bytes => ([], bytes)
  | _ + 1, [] => ([], [])
  | fuel + 1, b :: bytes =>
    if b ≠ 0x52#8 then readerScan fuel bytes
    else
      match bytes with
      | hi :: lo :: x :: rest =>
        if x = b ^^^ hi ^^^ lo then
          let r := readerScan fuel rest
          (half hi lo :: r.1, r.2)
        else readerScan fuel bytes
      | _ => ([], b :: bytes)

/-! ### The beacon payload (R129, R181) -/

/-- A crane sequence field, 0 when absent (R180, R181). -/
def craneField (q : Option Nat) : List Byte := bytes16 (q.getD 0)

/-- A claim of a beacon, 5 bytes (R181). -/
def claimField (cell : CellId) (st : ClaimState) (crane : Option Nat) : List Byte :=
  bytesOfHalf cell ++ [byteOf st.code] ++ craneField crane

/-- A beacon payload with its CRC-16 (R181). -/
def beaconPayload (id seq : Byte) (mode : Mode) (urgency deferral : Nat) (cell : CellId)
    (offset speed : Nat) (claims : List (List Byte)) : List Byte :=
  let covered := [0xB1#8, id, seq, byteOf mode.code, byteOf urgency, byteOf deferral]
    ++ bytesOfHalf cell ++ bytes16 (min 65535 offset) ++ bytes16 speed
    ++ [byteOf claims.length] ++ claims.flatten
  covered ++ bytesOfHalf (crc16 covered)

end Sys2Proof.Machine
end

