-- ==== Sys2Proof/Machine/Ops.lean ====
section
/-!
DEFINITION. Shared operations over the state: replacing a block's state, the class table (R1, R5),
the route's geometry (R11), the two bounds (R22, R23), stopping and braking distances (R104, R105),
the horizon (R43), queueing a notice (R164), and what is collected while one event is handled.
-/

namespace Sys2Proof.Machine

/-! ### Replacing one block's state -/

/-- The state with another Route Store. -/
def State.setRoute (s : State) (r : RouteStore) : State := { s with route := r }
/-- The state with another Position Unit. -/
def State.setPos (s : State) (p : PositionUnit) : State := { s with pos := p }
/-- The state with another Claim Engine. -/
def State.setClaims (s : State) (c : ClaimEngine) : State := { s with claims := c }
/-- The state with another own claim list. -/
def State.setList (s : State) (cs : List Claim) : State :=
  s.setClaims { s.claims with list := cs }
/-- The state with another Peer Table. -/
def State.setPeers (s : State) (p : PeerTable) : State := { s with peers := p }
/-- The state with another authority record. -/
def State.setAuth (s : State) (a : AuthorityUnit) : State := { s with auth := a }
/-- The state with another Beacon Unit. -/
def State.setBeacon (s : State) (b : BeaconUnit) : State := { s with beacon := b }
/-- The state with another Mode Controller. -/
def State.setCtl (s : State) (m : ModeController) : State := { s with ctl := m }
/-- The state with another Drive Link Unit. -/
def State.setLink (s : State) (l : DriveLink) : State := { s with link := l }
/-- The state with another Configuration Loader. -/
def State.setConfig (s : State) (c : ConfigLoader) : State := { s with config := c }

/-- Is the part held in reset (R170)? -/
def State.held (s : State) : Bool := s.resetPin || s.supplyLost

/-! ### Classes (R1, R5) -/

/-- The class of a cell: the class-table entry its four most significant bits select (R1). -/
def ConfigLoader.classOf (c : ConfigLoader) (cell : CellId) : ClassEntry :=
  c.classes.getD (cell.toNat / 4096) ⟨0, false, false, 0⟩

/-- The class of a cell, in this state's class table. -/
def State.classOf (s : State) (cell : CellId) : ClassEntry := s.config.classOf cell

/-- The effective speed cap of a route entry (R5). -/
def State.effectiveCap (s : State) (e : RouteEntry) : Nat :=
  match e.cap with
  | none => (s.classOf e.cell).speedCap
  | some v => min v (s.classOf e.cell).speedCap

/-! ### The route's geometry (R6, R11) -/

/-- The index of the first live entry. -/
def RouteStore.first (r : RouteStore) : Nat := r.nextIndex - r.entries.length

/-- The live entry of an index. -/
def RouteStore.entry? (r : RouteStore) (i : Nat) : Option RouteEntry :=
  if i < r.first then none else r.entries[i - r.first]?

/-- The sum of segment lengths of entries. -/
def lengths (es : List RouteEntry) : Nat := (es.map (·.length)).sum

/-- The start of entry `i`, from the start of the first live entry (R11). -/
def RouteStore.startOf (r : RouteStore) (i : Nat) : Nat := lengths (r.entries.take (i - r.first))

/-- The end of entry `i`: the start of the entry after it (R11). -/
def RouteStore.endOf (r : RouteStore) (i : Nat) : Nat := r.startOf (i + 1)

/-- The end of the last live entry. -/
def RouteStore.total (r : RouteStore) : Nat := lengths r.entries

/-- A route position carried forward along entries `es`, the first of them of index `i` (R28): while
the offset reaches the entry's length and a next entry exists, it moves to the next. The last entry
keeps the whole excess. -/
def carry : List RouteEntry → Nat → Nat → RoutePos
  | e :: e' :: es, i, off =>
    if e.length ≤ off then carry (e' :: es) (i + 1) (off - e.length) else ⟨i, off⟩
  | _, i, off => ⟨i, off⟩

/-- The route position that lies `x` cm beyond the start of the first live entry (R11, R114). -/
def RouteStore.locate (r : RouteStore) (x : Nat) : RoutePos := carry r.entries r.first x

/-- A position's distance beyond the start of the first live entry (R11). -/
def RouteStore.distance (r : RouteStore) (p : RoutePos) : Nat := r.startOf p.index + p.offset

/-- A position carried forward over the live entries as they stand (R28, R30). -/
def RouteStore.carryOn (r : RouteStore) (p : RoutePos) : RoutePos :=
  carry (r.entries.drop (p.index - r.first)) p.index p.offset

/-- The live entry containing the point `x` cm beyond the start of the first live entry (R23), with
its index and its start; none when the point lies at or beyond the end of the last. -/
def containing : List RouteEntry → Nat → Nat → Nat → Option (Nat × RouteEntry × Nat)
  | [], _, _, _ => none
  | e :: es, i, at_, x =>
    if x < at_ + e.length then some (i, e, at_) else containing es (i + 1) (at_ + e.length) x

/-- The live entry containing a point of the route (R23). -/
def RouteStore.cellAt (r : RouteStore) (x : Nat) : Option (Nat × RouteEntry × Nat) :=
  containing r.entries r.first 0 x

/-- The first live entry with an unreleased stop point, entries counted from index `i` (R16). -/
def firstStopIn : List RouteEntry → Nat → Option RoutePos
  | [], _ => none
  | e :: es, i =>
    match e.stop with
    | some o => if e.released then firstStopIn es (i + 1) else some ⟨i, o⟩
    | none => firstStopIn es (i + 1)

/-- The first unreleased stop point (R16). -/
def RouteStore.firstStop (r : RouteStore) : Option RoutePos := firstStopIn r.entries r.first

/-- The entries with the first unreleased stop point marked released (R17). -/
def releaseFirst : List RouteEntry → List RouteEntry
  | [] => []
  | e :: es =>
    if e.stop.isSome && !e.released then { e with released := true } :: es else e :: releaseFirst es

/-- The live entry with a cell id, and its index (R31); cell ids do not repeat (R8). -/
def RouteStore.indexOfCell (r : RouteStore) (cell : CellId) : Option Nat :=
  (r.entries.findIdx? fun e => e.cell == cell).map (r.first + ·)

/-! ### Uncertainty and bounds (R22, R23) -/

/-- The uncertainty u (R22). -/
def PositionUnit.u (p : PositionUnit) : Nat :=
  min Config.maxUncertainty (p.base + ceilDiv p.sinceFix 50)

/-- The front bound's distance beyond the start of the first live entry (R23), after start. -/
def State.front? (s : State) : Option Nat :=
  s.pos.pos.map fun p => s.route.distance p + s.pos.u

/-- The rear bound's distance beyond the start of the first live entry, negative when it lies before
it (R23), after start. -/
def State.rear? (s : State) : Option Int :=
  s.pos.pos.map fun p =>
    (s.route.distance p : Int) - (s.config.params.vehicleLength : Int) - (s.pos.u : Int)

/-! ### Stopping and braking distances (R43, R104 to R106) -/

/-- The stopping distance s(v) (R104). -/
def Params.stopping (p : Params) (v : Nat) : Nat :=
  ceilDiv (2 * p.decel * v * p.reactionMs + 1000 * (v * v)) (2000 * p.decel)

/-- The braking distance g(v, c) (R105). -/
def Params.braking (p : Params) (v c : Nat) : Nat :=
  ceilDiv (2 * p.decel * v * p.reactionMs + 1000 * (v * v - c * c)) (2000 * p.decel)

/-- The horizon H (R43). -/
def Params.horizon (p : Params) : Nat := p.stopping p.maxSpeed + p.margin

/-- The commit point's distance beyond the start of the first live entry (R106), after start. -/
def State.commit? (s : State) : Option Nat :=
  s.front?.map (· + s.config.params.stopping s.pos.speed + s.config.params.margin)

/-- Does the cell of an own claim start at or beyond the commit point (R106)? -/
def State.beyondCommit (s : State) (commit : Option Nat) (c : Claim) : Bool :=
  match commit with
  | none => false
  | some x => decide (x ≤ s.route.startOf c.index)

/-! ### Notices (R164) -/

/-- Is an item of the outgoing order a notice? -/
def OutItem.isNotice : OutItem → Bool
  | .notice _ => true
  | _ => false

/-- Is an item of the outgoing order a response? -/
def OutItem.isResponse : OutItem → Bool
  | .response .. => true
  | _ => false

/-- The notice queue: the notices of the outgoing order (R154). -/
def DriveLink.notices (l : DriveLink) : List OutItem := l.outgoing.filter (·.isNotice)

/-- A block queues a notice (R164): while 8 wait it is dropped and NOTICE_OVERFLOW latched. -/
def State.queueNotice (s : State) (n : Notice) : State :=
  if s.link.notices.length < Config.maxNotices then
    s.setLink { s.link with outgoing := s.link.outgoing ++ [.notice n] }
  else s.latch .noticeOverflow

/-- A notice completed with the mode that the event leaves (R143, R164). -/
def OutItem.complete (m : Mode) : OutItem → OutItem
  | .notice (.stopped c none) => .notice (.stopped c (some m))
  | x => x

/-- The notices queued by an event are completed when its handling is (R164). -/
def State.completeNotices (s : State) : State :=
  s.setLink { s.link with outgoing := s.link.outgoing.map (·.complete s.ctl.mode) }

/-! ### The handling of one event -/

/-- The state while one event is handled, and what it owes at its end: a recomputation of the
authority (R118), a report of overrun entries (R116), and an issue because of a mode change or of the
authority period (R119, R165). `claimsAlone` is clear for the one event whose claim changes do not by
themselves lead to a recomputation (APPEND_ROUTE, R118; notes/assumptions/12.md). -/
structure Work where
  s : State
  recompute : Bool := false
  modeChanged : Bool := false
  overrunEntry : Bool := false
  periodic : Bool := false
  issue : Bool := false
  claimsAlone : Bool := true
  deriving DecidableEq, Repr

/-- A change of the state within an event. -/
def Work.on (w : Work) (f : State → State) : Work := { w with s := f w.s }

/-- The event owes a recomputation. -/
def Work.owe (w : Work) : Work := { w with recompute := true }

end Sys2Proof.Machine
end

