-- ==== Sys2Proof/Machine/Claims.lean ====
section
/-!
DEFINITION. The Claim Engine (spec/03): claiming ahead (R44, R45), announcement (R46), promotion
(R48, R49), occupation and release (R51 to R53), start claims (R54), drops and yields (R55, R56);
with the two questions it puts to the Peer Table (R67) and the rank of rival claims (R83, R84).
-/

namespace Sys2Proof.Machine

/-! ### The Peer Table's answers (R67) and rank (R83, R84) -/

/-- The entries of the peer table, FRESH and STALE, in slot order. -/
def PeerTable.entries (t : PeerTable) : List PeerEntry := t.slots.filterMap id

/-- Does a peer claim list its cell as HELD or OCCUPIED? -/
def PeerClaim.reserves (p : PeerClaim) : Bool := p.state != .tentative

/-- The claim an entry's claim set holds on a cell; no cell appears twice in a set (R66). -/
def PeerEntry.claimOn (e : PeerEntry) (cell : CellId) : Option PeerClaim :=
  e.claims.find? fun p => p.cell == cell

/-- Does an entry list a cell as HELD or OCCUPIED? -/
def PeerEntry.reserves (e : PeerEntry) (cell : CellId) : Bool :=
  e.claims.any fun p => p.cell == cell && p.reserves

/-- Is a cell blocked (R67)? -/
def PeerTable.blocked (t : PeerTable) (cell : CellId) : Bool :=
  t.entries.any fun e => e.reserves cell

/-- The fields of a claim that rank compares (R84). -/
structure Ranked where
  state : ClaimState
  crane : Option Nat
  urgency : Nat
  deferral : Nat
  id : StationId
  deriving DecidableEq, Repr

/-- A crane sequence as test 2 of R83 takes it: an absent one counts as 65536. -/
def craneRank (q : Option Nat) : Nat := q.getD 65536

/-- Does claim `a` outrank claim `b` on one cell (R83)? `craneSpot` says whether test 2 applies. The
first test that separates the two decides. -/
def outranks (craneSpot : Bool) (a b : Ranked) : Bool :=
  if (a.state == .occupied) != (b.state == .occupied) then a.state == .occupied
  else if craneSpot && craneRank a.crane != craneRank b.crane then
    decide (craneRank a.crane < craneRank b.crane)
  else if (a.state == .held) != (b.state == .held) then a.state == .held
  else if a.urgency != b.urgency then decide (b.urgency < a.urgency)
  else if a.deferral != b.deferral then decide (b.deferral < a.deferral)
  else decide (a.id.toNat < b.id.toNat)

/-- A peer claim as rank takes it (R84). -/
def PeerEntry.ranked (e : PeerEntry) (p : PeerClaim) : Ranked :=
  ⟨p.state, p.crane, e.urgency, e.deferral, e.id⟩

/-- An own claim as rank takes it (R84), with the deferral count `d` as it stands. -/
def State.ranked (s : State) (d : Nat) (c : Claim) : Ranked :=
  ⟨c.state, c.crane, s.claims.urgency, d, s.config.straps.stationId⟩

/-- Does peer claim `p` of entry `e` outrank own claim `c` (R83, R84)? -/
def State.outrankedBy (s : State) (d : Nat) (c : Claim) (e : PeerEntry) (p : PeerClaim) : Bool :=
  outranks (s.classOf c.cell).craneSpot (e.ranked p) (s.ranked d c)

/-- Does any rival on the claim's cell outrank it (R48, condition 5)? -/
def State.outranked (s : State) (d : Nat) (c : Claim) : Bool :=
  s.peers.entries.any fun e =>
    e.claims.any fun p => p.cell == c.cell && s.outrankedBy d c e p

/-! ### Claiming ahead (R44, R45) -/

/-- The own claim on the entry of an index. -/
def State.claimAt (s : State) (i : Nat) : Option Claim := s.claims.list.find? fun c => c.index == i

/-- How many claims of a list are TENTATIVE. -/
def tentativeCount (cs : List Claim) : Nat := (cs.filter fun c => c.state == .tentative).length

/-- A claim on the live entry of index `i`, newly made (R45, R52, R54). -/
def State.newClaim (s : State) (i : Nat) (e : RouteEntry) (st : ClaimState) (announce : Nat)
    (heldSince : Option Nat) : Claim where
  identity := s.claims.nextIdentity
  index := i
  cell := e.cell
  state := st
  announce := announce
  firstAnnounce := none
  heldSince := heldSince
  crane := e.crane
  yieldTimer := none
  holdTimer := none

/-- A claim joins the list at the front (R38). -/
def State.addClaim (s : State) (c : Claim) : State :=
  s.setClaims { s.claims with
    list := s.claims.list ++ [c], nextIdentity := s.claims.nextIdentity + 1 }

/-- Is an index not above that of the entry holding the first unreleased stop point, when one exists
(R44, condition 5)? -/
def RouteStore.admits (r : RouteStore) (i : Nat) : Bool :=
  match r.firstStop with
  | none => true
  | some p => decide (i ≤ p.index)

/-- The entry claiming ahead would claim, with its index, when every condition of R44 holds. -/
def State.nextToClaim (s : State) : Option (Nat × RouteEntry) :=
  match s.claims.list.getLast?, s.front? with
  | some last, some front =>
    match s.route.entry? (last.index + 1) with
    | some e =>
      if s.ctl.mode = .serving ∧ s.route.state = .active
          ∧ s.claims.backoff = none ∧ s.peers.hold = none
          ∧ s.claims.list.length < Config.maxClaims
          ∧ tentativeCount s.claims.list < Config.maxTentative
          ∧ s.route.admits (last.index + 1) = true
          ∧ (s.route.endOf last.index : Int) - front < s.config.horizon
      then some (last.index + 1, e) else none
    | none => none
  | _, _ => none

/-- One evaluation of claiming ahead (R45): one claim after another while the conditions hold. Each
claim made lengthens the list, which holds at most 12, so `fuel` 12 is enough. -/
def claimAheadLoop : Nat → State → State
  | 0, s => s
  | fuel + 1, s =>
    match s.nextToClaim with
    | none => s
    | some (i, e) => claimAheadLoop fuel (s.addClaim (s.newClaim i e .tentative 0 none))

/-- Claiming ahead is evaluated (R45). -/
def State.claimAhead (s : State) : State := claimAheadLoop Config.maxClaims s

/-! ### Announcement (R46) -/

/-- A claim's count is advanced by a confirmation at `now` (R46). -/
def Claim.announced (now yieldWindow : Nat) (c : Claim) : Claim :=
  if c.announce = 0 then
    { c with announce := 1, firstAnnounce := some now, yieldTimer := some (now + yieldWindow) }
  else { c with announce := min 2 (c.announce + 1) }

/-- The counts of the snapshot's claims still in the list are advanced (R46). DEDUCED: those of OCCUPIED
claims too, with the first-announce time, as R46 and the table of R39 have it, though the last sentence
of R39 says they are what they were when the claim became OCCUPIED (notes/assumptions/27.md). -/
def State.announce (s : State) (identities : List Nat) : State :=
  s.setList (s.claims.list.map fun c =>
    if identities.contains c.identity then c.announced s.now s.config.params.yieldWindow else c)

/-! ### Promotion (R48, R49) -/

/-- Has a claim's yield window elapsed (R47)? -/
def State.windowElapsed (s : State) (c : Claim) : Bool :=
  match c.firstAnnounce with
  | none => false
  | some t => decide (t + s.config.params.yieldWindow ≤ s.now)

/-- The five conditions of R48 for claim `c` after claim `prev`, with the deferral count `d`. -/
def State.promotable (s : State) (d : Nat) (prev : Option Claim) (c : Claim) : Bool :=
  c.state == .tentative && c.announce == 2 && s.windowElapsed c
    && (match prev with | none => false | some p => p.state != .tentative)
    && !s.peers.blocked c.cell && !s.outranked d c

/-- A claim promoted (R49): HELD since now, its entry-hold timer started when the entry hold of its
class is above 0 (R50). -/
def State.promoted (s : State) (c : Claim) : Claim :=
  let hold := (s.classOf c.cell).entryHold
  { c with
    state := .held
    heldSince := some s.now
    holdTimer := if hold = 0 then none else some (s.now + hold) }

/-- Promotion evaluated over claims from rear to front (R49): the claims after it, the deferral
count after it, and whether any was promoted. -/
def State.sweep (s : State) : Option Claim → Nat → List Claim → List Claim × Nat × Bool
  | _, d, [] => ([], d, false)
  | prev, d, c :: cs =>
    if s.promotable d prev c then
      let c' := s.promoted c
      let r := s.sweep (some c') 0 cs
      (c' :: r.1, r.2.1, true)
    else
      let r := s.sweep (some c) d cs
      (c :: r.1, r.2)

/-- Promotion evaluated for every TENTATIVE claim, without the claiming ahead that follows (R63). -/
def State.promoteAll (s : State) : State × Bool :=
  let r := s.sweep none s.claims.deferral s.claims.list
  (s.setClaims { s.claims with list := r.1, deferral := r.2.1 }, r.2.2)

/-- Promotion evaluated for the claim on entry `i` and, as each is promoted, the claim after it. -/
def State.promoteFrom (s : State) (i : Nat) : State × Bool :=
  let rear := s.claims.list.takeWhile fun c => c.index != i
  let rest := s.claims.list.dropWhile fun c => c.index != i
  match rest with
  | [] => (s, false)
  | c :: _ =>
    if c.state = .tentative then
      let r := s.sweep rear.getLast? s.claims.deferral rest
      (s.setClaims { s.claims with list := rear ++ r.1, deferral := r.2.1 }, r.2.2)
    else (s, false)

/-- Promotion for every TENTATIVE claim, and claiming ahead when any was promoted (R49). -/
def State.evaluatePromotion (s : State) : State :=
  let r := s.promoteAll
  if r.2 then r.1.claimAhead else r.1

/-! ### Occupation and release (R51 to R53) -/

/-- A claim entered by the front bound at `now` (R51, R52). -/
def Claim.entered (now : Nat) (c : Claim) : Claim :=
  match c.state with
  | .tentative => { c with state := .occupied, heldSince := some now, yieldTimer := none }
  | .held => { c with state := .occupied, holdTimer := none }
  | .occupied => c

/-- The front bound has entered the live entry of index `i` (R51, R52): the state, and whether it is
an overrun entry. -/
def State.enterEntry (s : State) (i : Nat) (e : RouteEntry) : State × Bool :=
  match s.claimAt i with
  | some c =>
    (s.setList (s.claims.list.map fun x => if x.index = i then x.entered s.now else x),
      c.state == .tentative)
  | none =>
    if s.claims.list.length < Config.maxClaims then
      (s.addClaim (s.newClaim i e .occupied 0 (some s.now)), true)
    else (s, true)

/-- Occupation (R51, R52): the live entries from rear to front, the first of index `i` starting at
`at_`, whose start lies strictly before the front bound. -/
def enterUpTo (front : Nat) : List RouteEntry → Nat → Nat → State → State × Bool
  | [], _, _, s => (s, false)
  | e :: es, i, at_, s =>
    if at_ < front then
      let r := s.enterEntry i e
      let r' := enterUpTo front es (i + 1) (at_ + e.length) r.1
      (r'.1, r.2 || r'.2)
    else (s, false)

/-- Release (R53): the claims and live entries left when the rear bound, `rear` cm beyond the start
of the first live entry, has let go of what lies behind it. The rearmost claim is on the first live
entry (R6, R38), and a claim on the last live entry is not released. -/
def releaseBehind : List Claim → List RouteEntry → Int → List Claim × List RouteEntry
  | c :: cs, e :: e' :: es, rear =>
    if (e.length : Int) ≤ rear then releaseBehind cs (e' :: es) (rear - e.length)
    else (c :: cs, e :: e' :: es)
  | cs, es, _ => (cs, es)

/-- Release from the rear, retiring the entries of the released claims (R10, R53). -/
def State.release (s : State) : State :=
  match s.rear? with
  | none => s
  | some rear =>
    let r := releaseBehind s.claims.list s.route.entries rear
    (s.setList r.1).setRoute { s.route with entries := r.2 }

/-- A position change is handed on (R25): occupation and overrun entry, release, claiming ahead
(R63), and then the authority is to be recomputed. -/
def Work.positionChange (w : Work) : Work :=
  match w.s.front? with
  | none => w.owe
  | some front =>
    let r := enterUpTo front w.s.route.entries w.s.route.first 0 w.s
    { w with s := r.1.release.claimAhead, overrunEntry := w.overrunEntry || r.2, recompute := true }

/-! ### Start claims (R54) -/

/-- Start claims on `n` live entries from index `i` (R54). -/
def addStartClaims : Nat → Nat → State → State
  | 0, _, s => s
  | n + 1, i, s =>
    match s.route.entry? i with
    | none => s
    | some e => addStartClaims n (i + 1) (s.addClaim (s.newClaim i e .occupied 2 (some s.now)))

/-- The start claims, on every entry from the rear bound's to the front bound's, and the retirement
of the entries before them (R10, R54). -/
def State.startClaims (s : State) : State :=
  match s.rear?, s.front? with
  | some rear, some front =>
    match s.route.cellAt rear.toNat, s.route.cellAt front with
    | some (i, _, _), some (j, _, _) =>
      let s' := addStartClaims (j + 1 - i) i s
      s'.setRoute { s'.route with entries := s'.route.entries.drop (i - s'.route.first) }
    | _, _ => s
  | _, _ => s

/-! ### Drops and yields (R55, R56) -/

/-- Every TENTATIVE claim is dropped (R59). -/
def State.dropTentative (s : State) : State :=
  s.setList (s.claims.list.filter fun c => c.state != .tentative)

/-- Every TENTATIVE and HELD claim is dropped (R61). -/
def State.dropUnoccupied (s : State) : State :=
  s.setList (s.claims.list.filter fun c => c.state == .occupied)

/-- Every HELD claim is dropped (R60). -/
def State.dropHeld (s : State) : State :=
  s.setList (s.claims.list.filter fun c => c.state != .held)

/-- A yield of the claim of this identity (R56): it and every claim after it are dropped, the
deferral count rises, the backoff timer starts and YIELDS is counted. A claim that has left the list
gives no yield. -/
def State.yieldClaim (s : State) (identity : Nat) : State :=
  if s.claims.list.any (fun c => c.identity == identity) then
    let d := satAdd 7 s.claims.deferral 1
    (s.setClaims { s.claims with
      list := s.claims.list.takeWhile fun c => c.identity != identity
      deferral := d
      backoff := some (s.now + d * s.config.params.beaconPeriod) }).count .yields
  else s

/-- What a claim change is judged by (R63): the claims of the list, their states and whether they
have been announced. -/
def State.claimView (s : State) : List (Nat × ClaimState × Bool) :=
  s.claims.list.map fun c => (c.identity, c.state, c.firstAnnounce.isSome)

end Sys2Proof.Machine
end

