-- ==== Sys2Proof/Machine/Modes.lean ====
section
/-!
DEFINITION. The Mode Controller (spec/08): entering STOPPED and SERVING (R144, R152), leaving LISTEN
(R142), and raising a stop cause (R143). Each acts within the handling of one event.
-/

namespace Sys2Proof.Machine

/-- The outstanding list is emptied and the pending issue cleared, when the station leaves SERVING
(R166). -/
def State.emptyOutstanding (s : State) : State :=
  s.setLink { s.link with outstanding := [], pendingIssue := false }

/-- The station mode and, with it, the stop line: released exactly in SERVING (R139). -/
def State.setMode (s : State) (m : Mode) : State :=
  s.setCtl { s.ctl with mode := m, line := if m = .serving then .released else .asserted }

/-- Entering STOPPED (R144). The recomputation and the issue are owed to the end of the event. -/
def Work.enterStopped (w : Work) : Work :=
  { w with
    s := (if w.s.ctl.mode = .serving then w.s.emptyOutstanding else w.s).setMode .stopped
      |>.dropTentative
    recompute := true
    modeChanged := true }

/-- Entering SERVING (R152): the line released, the overrun flag cleared, claiming ahead. -/
def Work.enterServing (w : Work) : Work :=
  let s := w.s.setMode .serving
  { w with
    s := (s.setAuth { s.auth with overrun := false }).claimAhead
    recompute := true
    modeChanged := true }

/-- Does the set hold a cause other than START_CONFLICT? -/
def CauseSet.beyondStartConflict (k : CauseSet) : Bool :=
  Cause.all.any fun c => c != .startConflict && k.has c

/-- The test of R142 on leaving LISTEN. -/
def Work.listenExit (w : Work) : Work :=
  if w.s.ctl.mode = .listen ∧ w.s.pos.start = true then
    if w.s.ctl.causes.beyondStartConflict then w.enterStopped
    else if w.s.ctl.listenDone then
      if w.s.ctl.causes.isEmpty then w.enterServing else w.enterStopped
    else w
  else w

/-- A raise clears the satisfaction mark of its cause (R143, R145). -/
def ModeController.clearMark (m : ModeController) : Cause → ModeController
  | .positionLost => { m with markPositionLost := false }
  | .offRoute => { m with markOffRoute := false }
  | .airFault => { m with markAirFault := false }
  | _ => m

/-- The cause is recorded (R143): when it is new it joins the set, becomes the first cause of an
empty set and queues its STOPPED notice; every raise clears its satisfaction mark. -/
def State.recordCause (s : State) (c : Cause) : State :=
  let s := s.setCtl (s.ctl.clearMark c)
  if s.ctl.causes.has c then s
  else
    (s.setCtl { s.ctl with
      causes := s.ctl.causes.add c
      first := if s.ctl.causes.isEmpty then some c else s.ctl.first }).queueNotice (.stopped c none)

/-- A block raises a stop cause (R143). -/
def Work.raise (w : Work) (c : Cause) : Work :=
  let w := w.on (·.recordCause c)
  match w.s.ctl.mode with
  | .init => w
  | .listen => w.listenExit
  | .serving => w.enterStopped
  | .parked => w.enterStopped
  | .stopped => w

/-- A satisfying event sets the mark of its cause, when the cause is in the set (R145). -/
def ModeController.satisfy (m : ModeController) : Cause → ModeController
  | .positionLost => { m with markPositionLost := m.markPositionLost || m.causes.positionLost }
  | .offRoute => { m with markOffRoute := m.markOffRoute || m.causes.offRoute }
  | .airFault => { m with markAirFault := m.markAirFault || m.causes.airFault }
  | _ => m

/-- Is the OVERRUN condition over (R146): the carrier at rest with its front bound in the cell of an
own OCCUPIED claim or exactly at its end? -/
def State.overrunOver (s : State) : Bool :=
  s.pos.speed == 0 &&
    match s.front? with
    | none => false
    | some front => s.claims.list.any fun c =>
        c.state == .occupied && decide (s.route.startOf c.index ≤ front)
          && decide (front ≤ s.route.endOf c.index)

/-- Is a cause satisfied at a RESUME (R146)? -/
def State.satisfied (s : State) : Cause → Bool
  | .external => !s.ctl.external
  | .driveSilent => true
  | .overrun => s.overrunOver
  | .positionLost => s.ctl.markPositionLost
  | .offRoute => s.ctl.markOffRoute
  | .airFault => s.ctl.markAirFault
  | .startConflict =>
    !(s.claims.list.any fun c => c.state == .occupied && s.peers.blocked c.cell)
  | .duplicateId => false
  | .collisionRisk => false

/-- The causes of the set that are not satisfied (R147). -/
def State.unsatisfied (s : State) : CauseSet :=
  let u (c : Cause) := s.ctl.causes.has c && !s.satisfied c
  ⟨u .external, u .driveSilent, u .overrun, u .positionLost, u .offRoute, u .airFault,
    u .startConflict, u .duplicateId, u .collisionRisk⟩

end Sys2Proof.Machine
end

