-- ==== Sys2Proof/Machine/Authority.lean ====
section
/-!
DEFINITION. The Authority Unit (spec/06): the usable run, the pull-back, the ceiling and the point
(R107 to R114), the overrun check (R115 to R117), recomputation (R118, R119); and the issue of
AUTHORITY messages and the transmitter of the Drive Link Unit (R159, R165, R166), in which an event
ends.
-/

namespace Sys2Proof.Machine

/-! ### The usable run (R108 to R111) -/

/-- Is a claim usable (R109)? -/
def State.usable (s : State) (c : Claim) : Bool :=
  match c.state with
  | .occupied => true
  | .tentative => false
  | .held =>
    (match c.heldSince with
      | none => false
      | some t => decide (t + (s.classOf c.cell).entryHold ≤ s.now))
      && !s.peers.blocked c.cell

/-- What the walk finds: E, and whether a stop point bounds the run (R110). -/
structure Run where
  extent : Int
  bounded : Bool
  deriving DecidableEq, Repr

/-- The walk over the claims after the first claim of the run (R109, R110); `at_` is the index of
the last usable claim so far. -/
def State.walk (s : State) (front : Nat) (stop : Option RoutePos) : Nat → List Claim → Run
  | at_, [] => ⟨(s.route.endOf at_ : Int) - front, false⟩
  | at_, c :: cs =>
    if s.usable c then
      match stop with
      | some p =>
        if p.index = c.index then ⟨(s.route.distance p : Int) - front, true⟩
        else s.walk front stop c.index cs
      | none => s.walk front stop c.index cs
    else ⟨(s.route.endOf at_ : Int) - front, false⟩

/-- The run from its first claim `c` on, the claims after it being `cs` (R110). -/
def State.runFrom (s : State) (front : Nat) (c : Claim) (cs : List Claim) : Run :=
  match s.route.firstStop with
  | some p =>
    if p.index ≤ c.index then ⟨(s.route.distance p : Int) - front, true⟩
    else s.walk front (some p) c.index cs
  | none => s.walk front none c.index cs

/-- The claim on entry `i` with the claims after it. -/
def claimsFrom (i : Nat) (cs : List Claim) : List Claim := cs.dropWhile fun c => c.index != i

/-- The run as R108 finds it; none when the front bound lies in no own claim. DESIGN CHOICE: a front bound
strictly inside the cell of a HELD or TENTATIVE claim, which R108 says cannot be but log 31's choice can
bring about, is taken as one at its start: the claim is tested, and with it not usable E is 0, without
OVERRUN (notes/assumptions/34.md). -/
def State.usableRun (s : State) (front : Nat) : Option Run :=
  match s.route.cellAt front with
  | none => none
  | some (i, _, at_) =>
    match claimsFrom i s.claims.list with
    | c :: cs => if s.usable c then some (s.runFrom front c cs) else some ⟨0, false⟩
    | [] => if at_ = front then some ⟨0, false⟩ else none

/-- L0 (R111). -/
def Run.length (r : Run) (margin : Nat) : Nat :=
  (if r.bounded then r.extent else r.extent - margin).toNat

/-! ### The keep-clear pull-back (R112) -/

/-- The chain of windows over the live entries, `at_` the start of the first of them: the start of
the first cell of the last chain, and how far that chain's windows reach. `own` is the start of the
front bound's own cell, `p` the point P, `behind` the vehicle length and twice u. -/
def State.keepClearChain (s : State) (own p behind : Nat) :
    List RouteEntry → Nat → Option (Nat × Nat) → Option (Nat × Nat)
  | [], _, chain => chain
  | e :: es, at_, chain =>
    let next := at_ + e.length
    if own < at_ ∧ at_ < p ∧ (s.classOf e.cell).keepClear = true then
      let reach := next + behind
      match chain with
      | none => s.keepClearChain own p behind es next (some (at_, reach))
      | some (a, b) =>
        if at_ < b then s.keepClearChain own p behind es next (some (a, max b reach))
        else s.keepClearChain own p behind es next (some (at_, reach))
    else s.keepClearChain own p behind es next chain

/-- L from L0 (R112). -/
def State.pulledBack (s : State) (front own l0 : Nat) : Nat :=
  let p := front + l0
  let behind := s.config.params.vehicleLength + 2 * s.pos.u
  match s.keepClearChain own p behind s.route.entries 0 none with
  | none => l0
  | some (a, b) => if p < b then a - front else l0

/-! ### The speed ceiling (R113) -/

/-- Condition 3 of R113 for candidate `v`: the braking targets of the live entries that start after
the front bound and strictly before the authority point `p`. -/
def State.meetsTargets (s : State) (front p v : Nat) : List RouteEntry → Nat → Bool
  | [], _ => true
  | e :: es, at_ =>
    (if front < at_ ∧ at_ < p then
      decide (v ≤ s.effectiveCap e)
        || decide (s.config.params.braking v (s.effectiveCap e) ≤ at_ - front)
      else true)
      && s.meetsTargets front p v es (at_ + e.length)

/-- The conditions of R113 for candidate `v`, with `cap` the effective cap of the front bound's cell. -/
def State.ceilingOk (s : State) (front cap l v : Nat) : Bool :=
  decide (v ≤ cap) && decide (s.config.params.stopping v ≤ l)
    && s.meetsTargets front (front + l) v s.route.entries 0

/-- The largest of 0, 5, .., 5·n that meets the conditions (R113). -/
def State.ceilingSearch (s : State) (front cap l : Nat) : Nat → Nat
  | 0 => 0
  | n + 1 =>
    if s.ceilingOk front cap l (5 * (n + 1)) then 5 * (n + 1) else s.ceilingSearch front cap l n

/-! ### The record (R107, R114) -/

/-- The record computed afresh, the overrun flag carried over (R103), and whether R108 found the
front bound in no own claim. -/
def State.computeAuthority (s : State) : AuthorityUnit × Bool :=
  match s.front? with
  | none => (⟨0, none, 0, s.auth.overrun⟩, s.ctl.mode == .serving)
  | some front =>
    if s.ctl.mode ≠ .serving then
      (⟨0, some (s.route.locate front), 0, s.auth.overrun⟩, false)
    else
      match s.usableRun front, s.route.cellAt front with
      | some run, some (_, e, own) =>
        let l := s.pulledBack front own (run.length s.config.params.margin)
        (⟨l, some (s.route.locate (front + l)),
          s.ceilingSearch front (s.effectiveCap e) l (s.config.params.maxSpeed / 5),
          s.auth.overrun⟩, false)
      | _, _ => (⟨0, some (s.route.locate front), 0, s.auth.overrun⟩, true)

/-! ### Recomputation (R115 to R119) -/

/-- OVERRUN is raised, and each raise sets the overrun flag (R117). -/
def Work.raiseOverrun (w : Work) : Work :=
  (w.on fun s => s.setAuth { s.auth with overrun := true }).raise .overrun

/-- The record is replaced by the one computed afresh (R103). -/
def Work.compute (w : Work) : Work := w.on fun s => s.setAuth s.computeAuthority.1

/-- The check of R115, made in SERVING against the record just computed. -/
def State.overruns (s : State) : Bool :=
  s.ctl.mode == .serving &&
    (s.computeAuthority.2 || decide (s.auth.length < s.config.params.stopping s.pos.speed))

/-- The recomputation (R107 to R117): the overrun entries of the event are raised before the gate
(R116); a raise by the check of R115 leads to the recomputation of the mode change (R117). An issue
is owed when the length has fallen, when the mode has changed, or at the authority period (R119,
R165). DEDUCED: also when a PROCEED has made it fall, by the margin that a run bounded by the released
stop point did not take, though R17 says that a release causes no immediate message
(notes/assumptions/29.md). -/
def Work.recomputeNow (w : Work) : Work :=
  let old := w.s.auth.length
  let w := if w.overrunEntry then w.raiseOverrun else w
  let w := w.compute
  let w := if w.s.overruns then w.raiseOverrun.compute else w
  { w with issue := w.modeChanged || w.periodic || decide (w.s.auth.length < old) }

/-- Does the event owe a recomputation (R118)? `before` is the state before the event: a claim
change is judged by the list before and after (R63). -/
def Work.owes (before : State) (w : Work) : Bool :=
  w.recompute || w.modeChanged || w.overrunEntry || w.periodic
    || (w.claimsAlone && w.s.claimView != before.claimView)

/-- The Authority Unit recomputes once, after every change of the event (R63, R118). -/
def Work.settle (before : State) (w : Work) : Work :=
  if w.owes before then w.recomputeNow else w

/-! ### The issue of AUTHORITY messages (R165, R166) -/

/-- The AUTHORITY message built now (R165). -/
def State.authorityMessage (s : State) : AuthorityMessage where
  seq := s.link.authSeq
  mode := s.ctl.mode
  route := s.route.state
  length := s.auth.length
  point := s.auth.point
  ceiling := s.auth.ceiling
  overrun := s.auth.overrun
  stop := s.route.firstStop
  first := if s.ctl.mode = .stopped then s.ctl.first else none

/-- The withdrawal of R165: an unsent AUTHORITY message that is the last item of the outgoing order
leaves it, with any outstanding entry it holds. -/
def DriveLink.withdraw (l : DriveLink) : DriveLink :=
  match l.outgoing.getLast? with
  | some (.authority m) =>
    { l with
      outgoing := l.outgoing.dropLast
      outstanding := l.outstanding.filter fun o => o.seq != m.seq }
  | _ => l

/-- An issue (R165, R166): withdrawal; in SERVING the message is supervised, or held back while the
outstanding list is full; in the other modes it joins the outgoing order without supervision. -/
def State.issueAuthority (s : State) : State :=
  let l := s.link.withdraw
  let built : DriveLink :=
    { l with outgoing := l.outgoing ++ [.authority s.authorityMessage], authSeq := l.authSeq + 1 }
  if s.ctl.mode = .serving then
    if l.outstanding.length < Config.maxOutstanding then
      s.setLink { built with outstanding := l.outstanding ++ [⟨l.authSeq, s.now⟩] }
    else s.setLink { l with pendingIssue := true }
  else s.setLink built

/-! ### The end of an event -/

/-- The event's issue is made and its notices are completed (R164, R165). -/
def Work.close (w : Work) : State :=
  (if w.issue then w.s.issueAuthority else w.s).completeNotices

/-- The transmitter, when it is free, takes the oldest item of the outgoing order (R159). It takes
none while a link rate waits (R175) or a RESTART is about to take effect (R178). -/
def State.transmit (s : State) : State :=
  match s.link.transmitting, s.link.outgoing with
  | none, x :: xs =>
    if s.link.restartDue = true ∨ s.config.pendingRate.isSome = true then s
    else s.setLink { s.link with
      transmitting := some x
      outgoing := xs
      lastSent := match x with | .authority m => some m.seq | _ => s.link.lastSent }
  | _, _ => s

/-- An event, whole: its work, the one recomputation, the issue, the notices, the transmitter. -/
def State.event (s : State) (f : Work → Work) : State :=
  ((f ⟨s, false, false, false, false, false, true⟩).settle s).close.transmit

end Sys2Proof.Machine
end

