-- ==== Sys2Proof/Machine/Position.lean ====
section
/-!
DEFINITION. The Position Unit (spec/02): drive reports (R26 to R29), transponder reads (R31 to R35),
the carry onto appended entries (R30), and the start position (R36, R37).
-/

namespace Sys2Proof.Machine

/-- The reported speed is taken, saturated at 1200 (R26). -/
def State.takeSpeed (s : State) (v : Nat) : State :=
  let s' := s.setPos { s.pos with speed := min Config.maxReportSpeed v }
  if Config.maxReportSpeed < v then s'.latch .clampedReport else s'

/-- An applied distance (R28, R29): the position is carried forward, the distance since fix grows,
and POSITION_LOST is raised when it passes FIX_GAP_MAX. -/
def Work.applyDistance (w : Work) (p : RoutePos) (d : Nat) : Work :=
  let before := w.s.pos.sinceFix
  let after := satAdd Config.saturation before d
  let w := w.on fun s => s.setPos { s.pos with
    pos := some (s.route.carryOn ⟨p.index, p.offset + d⟩), sinceFix := after }
  if before ≤ w.s.config.params.fixGapMax ∧ w.s.config.params.fixGapMax < after then
    w.raise .positionLost
  else w

/-- The distance of a report (R27 to R29, R25). -/
def Work.takeDistance (w : Work) (d : Nat) : Work :=
  match w.s.pos.start, w.s.pos.pos with
  | true, some p =>
    if Config.maxReportDistance < d then w.raise .positionLost
    else if d = 0 then w
    else (w.applyDistance p d).positionChange
  | _, _ => w

/-- A fix at live entry `j` read while the odometric position is `p` (R32, R33). -/
def Work.fix (w : Work) (cell : CellId) (p : RoutePos) (j : Nat) : Work :=
  let s := w.s
  let u := s.pos.u
  let correction : Int := (s.route.startOf j : Int) - (s.route.distance p : Int)
  let s1 := if j = p.index + 2 then s.count .missedFixes else s
  let s2 :=
    if u + s.config.params.fixTol < correction.natAbs then
      (s1.latch .fixDisagreement).queueNotice (.fixDisagreement cell correction u)
    else s1
  let s3 := s2.setPos { s2.pos with pos := some ⟨j, 0⟩, base := 0, sinceFix := 0, offRoute := 0 }
  let w3 : Work := { w with s := s3 }
  let lost : Bool := decide (correction < 0) &&
    decide ((s.route.startOf j : Int) < (s.config.params.vehicleLength : Int))
  let w4 := if lost then w3.raise .positionLost else w3
  w4.positionChange.on fun s => s.setCtl
    (if lost then s.ctl.satisfy .offRoute else (s.ctl.satisfy .positionLost).satisfy .offRoute)

/-- An off-route read (R35). -/
def Work.offRouteRead (w : Work) : Work :=
  if w.s.pos.offRoute < 1 then w.on fun s => s.setPos { s.pos with offRoute := s.pos.offRoute + 1 }
  else if w.s.pos.offRoute < 2 then
    (w.on fun s => s.setPos { s.pos with offRoute := 2 }).raise .offRoute
  else w

/-- A transponder read is sorted (R31). -/
def Work.read (w : Work) (cell : CellId) : Work :=
  match w.s.pos.start, w.s.pos.pos with
  | true, some p =>
    if cell = noCell then w
    else
      match w.s.route.indexOfCell cell with
      | some j =>
        if p.index ≤ j + 1 ∧ j ≤ p.index + 2 then w.fix cell p j
        else w.on fun s => (s.count .offWindowReads).setPos { s.pos with offRoute := 0 }
      | none => w.offRouteRead
  | _, _ => w.on fun s => s.count .ignoredReads

/-- The checks of R36 past the mode check, and the result of the one that fails. -/
def State.startRefusal (s : State) (index offset : Nat) : Option ResultCode :=
  if s.route.state = .empty then some .noRoute
  else
    match s.route.entry? index with
    | none => some .badPosition
    | some e =>
      let x := s.route.startOf index + offset
      if 15 < index ∨ e.length ≤ offset ∨ s.route.total ≤ x + s.config.params.startUnc then
        some .badPosition
      else if x < s.config.params.vehicleLength + s.config.params.startUnc then some .rearOutside
      else none

/-- Does any peer entry list the cell of a start claim as HELD or OCCUPIED (R97)? -/
def State.startConflict (s : State) : Bool :=
  s.claims.list.any fun c => s.peers.blocked c.cell

/-- An accepted SET_START (R37). -/
def Work.start (w : Work) (index offset : Nat) : Work :=
  let s1 := w.s.setPos { w.s.pos with
    start := true, pos := some ⟨index, offset⟩, base := w.s.config.params.startUnc
    sinceFix := 0, offRoute := 0 }
  let w2 : Work := { w with s := s1.startClaims, recompute := true }
  let w3 := if w2.s.startConflict then w2.raise .startConflict else w2
  w3.listenExit

end Sys2Proof.Machine
end

