-- ==== Sys2Proof/Machine/Contest.lean ====
section
/-!
DEFINITION. Contest Logic (spec/05): the outcome of each contest at an accepted beacon (R85 to R91),
the mutual-block test (R94, R95), the start-conflict test (R97 to R99), and the order in which the
decisions are carried out (R92).
-/

namespace Sys2Proof.Machine

/-- The outcome of one contest (R86). `late` is a late contest, with whether the own claim is
yielded (R89). -/
inductive Verdict where
  | none
  | collision
  | startConflict
  | late (yielded : Bool)
  | yielded
  deriving DecidableEq, Repr

/-- Is an own claim a start claim (R97)? -/
def Claim.isStart (c : Claim) : Bool :=
  c.state == .occupied && c.announce == 2 && c.firstAnnounce.isNone

/-- Does the start-conflict test apply (R98)? -/
def State.startTest (s : State) : Bool :=
  (s.ctl.mode == .listen && s.pos.start) || s.ctl.causes.startConflict

/-- The outcome of the contest between own claim `c` and peer claim `p` of entry `e` (R86 to R91,
R98), with the commit point computed as stage 1 begins. -/
def State.verdict (s : State) (commit : Option Nat) (e : PeerEntry) (c : Claim) (p : PeerClaim) :
    Verdict :=
  let beaten := s.outrankedBy s.claims.deferral c e p
  match c.state with
  | .occupied =>
    if s.startTest && c.isStart && p.reserves then .startConflict
    else if p.state = .occupied then .collision
    else .none
  | .held =>
    if p.reserves then .late (beaten && s.beyondCommit commit c)
    else if beaten && s.beyondCommit commit c then .yielded else .none
  | .tentative => if beaten then .yielded else .none

/-- A contest: an own claim, the peer claim on its cell, and its outcome. -/
structure Contest where
  claim : Claim
  rival : PeerClaim
  verdict : Verdict
  deriving DecidableEq, Repr

/-- The contests with peer `e`, from the rearmost own claim to the frontmost (R85). -/
def State.contests (s : State) (commit : Option Nat) (e : PeerEntry) : List Contest :=
  s.claims.list.filterMap fun c =>
    (e.claimOn c.cell).map fun p => ⟨c, p, s.verdict commit e c p⟩

/-- Is a mutual block found (R94)? -/
def mutualBlock (contests : List Contest) : Bool :=
  (contests.any fun k => k.rival.state == .tentative && k.claim.state != .tentative)
    && contests.any fun k => k.claim.state == .tentative && k.rival.reserves

/-- Is a claim marked for yielding by a mutual block (R95)? -/
def State.releasedByBlock (s : State) (commit : Option Nat) (e : PeerEntry) (k : Contest) : Bool :=
  decide (e.id.toNat < s.config.straps.stationId.toNat)
    && k.claim.state == .held && k.rival.state == .tentative && s.beyondCommit commit k.claim

/-- Is a claim to be yielded by its own contest? -/
def Verdict.yields : Verdict → Bool
  | .late y => y
  | .yielded => true
  | _ => false

/-- A late contest is latched, counted and noticed (R89). -/
def State.lateContest (s : State) (e : PeerEntry) (k : Contest) : State :=
  match k.verdict with
  | .late y => ((s.latch .lateContest).count .lateContests).queueNotice
      (.lateContest e.id k.claim.cell k.rival.state y)
  | _ => s

/-- Stage 1 of the hand-on of an accepted beacon from `e` (R82, R85, R92): the late contests, the
mutual block, the one yield of the rearmost claim marked, and the causes, COLLISION_RISK before
START_CONFLICT (notes/assumptions/16.md). -/
def Work.contest (w : Work) (e : PeerEntry) : Work :=
  let s := w.s
  let commit := s.commit?
  let ks := s.contests commit e
  let block := mutualBlock ks
  let marked (k : Contest) : Bool := block && s.releasedByBlock commit e k
  let s1 := ks.foldl (fun t k => t.lateContest e k) s
  let s2 :=
    if block then (s1.latch .mutualBlock).queueNotice (.mutualBlock e.id (ks.any marked)) else s1
  let s3 :=
    match ks.find? fun k => k.verdict.yields || marked k with
    | some k => s2.yieldClaim k.claim.identity
    | none => s2
  let w4 : Work := { w with s := s3 }
  let w5 := if ks.any fun k => k.verdict == .collision then w4.raise .collisionRisk else w4
  if ks.any fun k => k.verdict == .startConflict then w5.raise .startConflict else w5

end Sys2Proof.Machine
end

