-- ==== Sys2Proof/Machine/PeerTable.lean ====
section
/-!
DEFINITION. The Peer Table (spec/04): a beacon that arrives (R69 to R76), removal (R79 to R81), and
the hand-on of a peer-table change (R82); with the checks of a received modem frame (R134).
-/

namespace Sys2Proof.Machine

/-- The slot of the entry with a station id. -/
def PeerTable.slotOf (t : PeerTable) (id : StationId) : Option Nat :=
  t.slots.findIdx? fun o => match o with | some e => e.id == id | none => false

/-- The entry in a slot. -/
def PeerTable.entryIn (t : PeerTable) (k : Nat) : Option PeerEntry := (t.slots[k]?).join

/-- The empty slot of lowest number. -/
def PeerTable.emptySlot (t : PeerTable) : Option Nat := t.slots.findIdx? fun o => o.isNone

/-- The STALE entry with the oldest last-heard time, the lowest slot among equals (R75): `k` is the
slot of the first of `slots`. -/
def oldestStale : List (Option PeerEntry) → Nat → Option (Nat × PeerEntry) → Option (Nat × PeerEntry)
  | [], _, best => best
  | none :: rest, k, best => oldestStale rest (k + 1) best
  | some e :: rest, k, best =>
    if e.age = .stale then
      match best with
      | none => oldestStale rest (k + 1) (some (k, e))
      | some (_, b) =>
        if e.lastHeard < b.lastHeard then oldestStale rest (k + 1) (some (k, e))
        else oldestStale rest (k + 1) best
    else oldestStale rest (k + 1) best

/-- An entry is placed in a slot, or a slot is emptied. -/
def State.putSlot (s : State) (k : Nat) (o : Option PeerEntry) : State :=
  s.setPeers { s.peers with slots := s.peers.slots.set k o }

/-- The occupied count of a PEER_LOST notice (R80). -/
def PeerEntry.occupiedCount (e : PeerEntry) : Nat :=
  (e.claims.filter fun p => p.state == .occupied).length

/-- An entry is removed with its PEER_LOST notice (R79, R75, R80). -/
def State.removePeer (s : State) (k : Nat) (e : PeerEntry) (evicted : Bool) : State :=
  (s.queueNotice (.peerLost e.id e.occupiedCount evicted)).putSlot k none

/-- Stages 2 and 3 of the hand-on of a peer-table change (R82). -/
def Work.peersChanged (w : Work) : Work := (w.on (·.evaluatePromotion)).owe

/-- An entry is stored in a slot, BEACONS_HEARD counted and the change handed on (R73, R74, R82). -/
def Work.storePeer (w : Work) (k : Nat) (e : PeerEntry) : Work :=
  ((w.on fun s => (s.putSlot k (some e)).count .beaconsHeard).contest e).peersChanged

/-- Is a beacon accepted from a station whose entry is `old` (R71, R72)? The model's choice where PEER_STALE
and PEER_EXPIRE are both 5000 ms and the beacon is taken before their common expiry: the entry is still
FRESH and its sequence decides, as R78 says, though R79 calls the entry STALE (notes/assumptions/32.md). -/
def accepts (old new : PeerEntry) : Bool :=
  let d := (new.seq - old.seq).toNat
  (decide (1 ≤ d) && decide (d ≤ 127)) || (new.mode == .listen && old.mode != .listen)
    || old.age == .stale

/-- A beacon that finds the table full of FRESH entries is dropped (R76). -/
def State.tableOverflow (s : State) : State :=
  let s := (s.count .tableOverflows).latch .tableOverflow
  s.setPeers { s.peers with hold := some (s.now + s.config.params.peerStale) }

/-- A beacon that passed the checks of R69, `e` the entry it makes (R70 to R76). -/
def Work.takeBeacon (w : Work) (e : PeerEntry) : Work :=
  if e.id = w.s.config.straps.stationId then w.raise .duplicateId
  else
    match w.s.peers.slotOf e.id with
    | some k =>
      match w.s.peers.entryIn k with
      | some old => if accepts old e then w.storePeer k e else w
      | none => w
    | none =>
      match w.s.peers.emptySlot with
      | some k => w.storePeer k e
      | none =>
        match oldestStale w.s.peers.slots 0 none with
        | some (k, old) => (w.on (·.removePeer k old true)).storePeer k e
        | none => w.on (·.tableOverflow)

/-- A received RX_FRAME body (R134): checks 1 to 3, the own frame handed back, and the Peer Table. -/
def Work.receive (w : Work) (body : List Byte) : Work :=
  match readBeacon body with
  | none => w.on (·.count .beaconsRejected)
  | some b =>
    if w.s.beacon.lastPayload = some body then w
    else
      match checkBeacon b w.s.now with
      | none => w.on (·.count .beaconsRejected)
      | some e => w.takeBeacon e

/-- The entry of a slot, when it holds one that is due to become STALE at `now` (R78). -/
def State.staleDue (s : State) (k : Nat) : Bool :=
  match s.peers.entryIn k with
  | some e => e.age == .fresh && decide (e.lastHeard + s.config.params.peerStale ≤ s.now)
  | none => false

/-- Is the entry of a slot due to be removed (R79)? -/
def State.expireDue (s : State) (k : Nat) : Bool :=
  match s.peers.entryIn k with
  | some e => decide (e.lastHeard + s.config.params.peerExpire ≤ s.now)
  | none => false

/-- An entry becomes STALE (R78). -/
def State.makeStale (s : State) (k : Nat) : State :=
  match s.peers.entryIn k with
  | some e => s.putSlot k (some { e with age := .stale })
  | none => s

/-- An entry is removed without eviction and the change handed on (R79, R81, R82). -/
def Work.dropPeer (w : Work) (k : Nat) : Work :=
  match w.s.peers.entryIn k with
  | some e => (w.on (·.removePeer k e false)).peersChanged
  | none => w

/-- The ageing of one slot at one moment (R68, R79): the entry becomes STALE and is removed, as far as
its last-heard time lies back. -/
def Work.ageSlot (w : Work) (k : Nat) : Work :=
  let w := if w.s.staleDue k then w.on (·.makeStale k) else w
  if w.s.expireDue k then w.dropPeer k else w

/-- The ageing of every slot measured at once (R68). DESIGN CHOICE: in slot order; R82 gives entries that
pass together no order, and the order of their PEER_LOST notices follows it
(notes/assumptions/14.md). -/
def Work.ageAll (w : Work) : Work := (List.range Config.peerSlots).foldl Work.ageSlot w

end Sys2Proof.Machine
end

