-- ==== Sys2Proof/Machine/Beacon.lean ====
section
/-!
DEFINITION. The Beacon Unit (spec/07): building a beacon (R129), confirmation and failure (R131 to
R133), the air port's receiver (R134, R182) and AIR_RESET (R135).
-/

namespace Sys2Proof.Machine

/-! ### Building (R25, R129) -/

/-- The position fields of a beacon: cell id and offset of the front bound (R25). When the front
bound lies in no live entry they give the last live entry and the distance beyond its start. -/
def State.beaconPosition (s : State) : CellId × Nat :=
  match s.front? with
  | none => (noCell, 0)
  | some x =>
    let p := s.route.locate x
    match s.route.entry? p.index with
    | some e => (e.cell, p.offset)
    | none => (noCell, 0)

/-- The payload of a beacon built now (R129). -/
def State.buildPayload (s : State) : List Byte :=
  beaconPayload s.config.straps.stationId s.beacon.seq s.ctl.mode s.claims.urgency
    s.claims.deferral s.beaconPosition.1 s.beaconPosition.2 s.pos.speed
    (s.claims.list.map fun c => claimField c.cell c.state c.crane)

/-- A beacon is built and handed to the modem (R129): the TX_FRAME of step 4 stands on the air port. -/
def State.buildBeacon (s : State) : State :=
  s.setBeacon { s.beacon with
    lastPayload := some s.buildPayload
    handed := some (txFrame s.beacon.seq s.buildPayload)
    inFlight := some
      { seq := s.beacon.seq, handedAt := s.now
        identities := s.claims.list.map (·.identity)
        completing := decide (s.route.state = .truncating) }
    seq := s.beacon.seq + 1 }

/-- A beacon is due: it is built, or the period is skipped while one is in flight (R127). -/
def State.beaconDue (s : State) : State :=
  match s.beacon.inFlight with
  | none => s.buildBeacon
  | some _ => s.count .beaconPeriodsSkipped

/-- The generator is stepped and the timer re-armed (R125, R126). -/
def State.rearmBeacon (s : State) : State :=
  let j := jitterStep s.beacon.jitter
  s.setBeacon { s.beacon with
    jitter := j
    timer := some (s.now + s.config.params.beaconPeriod
      + jitterDraw j s.config.params.beaconJitter) }

/-- What an expiry of the beacon timer does after the re-arming, by mode (R127, R128). -/
def State.beaconTurn (s : State) : State :=
  match s.ctl.mode with
  | .init => s
  | .listen => s.beaconDue
  | .serving => s.beaconDue
  | .stopped => s.beaconDue
  | .parked =>
    if s.beacon.parkedCount < 2 then
      s.setBeacon { s.beacon with parkedCount := s.beacon.parkedCount + 1 }
    else (s.setBeacon { s.beacon with parkedCount := 0 }).beaconDue

/-! ### Confirmation and failure (R131 to R133) -/

/-- The in-flight record becomes empty. -/
def State.clearInFlight (s : State) : State := s.setBeacon { s.beacon with inFlight := none }

/-- The confirmation of a completing beacon ends a truncation (R15). -/
def State.completeTruncation (s : State) (b : InFlight) : State :=
  if b.completing = true ∧ s.route.state = .truncating then
    s.setRoute { s.route with state := .active }
  else s

/-- TX_DONE SENT for the beacon in flight (R132). -/
def State.beaconConfirmed (s : State) (b : InFlight) : State :=
  let s := s.count .beaconsSent
  let s := s.setBeacon { s.beacon with failures := 0 }
  let s := s.setCtl (s.ctl.satisfy .airFault)
  let s := (s.announce b.identities).promoteAll.1
  (s.completeTruncation b).claimAhead.clearInFlight

/-- The beacon in flight fails (R133). -/
def Work.beaconFailed (w : Work) : Work :=
  let w := w.on fun s => (s.count .beaconsDropped).setBeacon
    { s.beacon with failures := satAdd 255 s.beacon.failures 1 }
  let w := if w.s.config.params.airFailLimit ≤ w.s.beacon.failures then w.raise .airFault else w
  w.on (·.clearInFlight)

/-- A TX_DONE body is taken against the in-flight record (R131, R182). The model's choice where it answers a
beacon from before a RESTART and a new beacon with the same sequence is in flight: the tag decides, as R131
has it, and settles the new beacon, though R124 says it has no effect (notes/assumptions/33.md). -/
def Work.txDone (w : Work) (body : List Byte) : Work :=
  match body, w.s.beacon.inFlight with
  | [tag, status], some b =>
    if tag ≠ b.seq then w
    else if status = 0x00#8 then w.on (·.beaconConfirmed b)
    else if status = 0x01#8 then w.beaconFailed
    else w
  | _, _ => w

/-! ### The air port's receiver (R182) -/

/-- A frame of the air port is handled by its kind (R182). -/
def Work.airEvent (w : Work) : AirEvent → Work
  | .tooLong => w.on (·.count .beaconsRejected)
  | .frame kind body =>
    if kind = 0x02#8 then w.txDone body
    else if kind = 0x03#8 then w.receive body
    else w.on (·.count .beaconsRejected)

/-- Bytes arrive from the modem (R182): none is taken in INIT; each whole frame is an event of its
own. -/
def State.airBytes (s : State) (bytes : List Byte) : State :=
  if s.ctl.mode = .init then s
  else
    let held := s.beacon.rx ++ bytes
    let r := airScan (held.length + 1) held
    r.1.foldl (fun t k => t.event fun w => w.airEvent k)
      (s.setBeacon { s.beacon with rx := r.2 })

/-- AIR_RESET's effects (R135). -/
def State.resetAir (s : State) : State :=
  s.setBeacon { s.beacon with rx := [], inFlight := none, failures := 0 }

end Sys2Proof.Machine
end

