-- ==== Sys2Proof/Machine/Loader.lean ====
section
/-!
DEFINITION. The Configuration Loader (spec/10): the resets (R170, R171, R178), the end of the load
(R172 to R175) and the entry into LISTEN (R140).
-/

namespace Sys2Proof.Machine

/-- Every block takes its reset state, with these latched straps, and the load begins (R170, R7, R21,
R41, R68, R103, R124, R138, R155). The time base, the level of the external-stop pin and the model's
own queue and counter are not blocks' state. -/
def State.resetBlocks (s : State) (straps : Straps) : State where
  route := .reset
  pos := .reset
  claims := .reset
  peers := .reset
  auth := .reset
  beacon := .reset straps.stationId
  ctl := .reset
  link := .reset
  config := { ConfigLoader.reset straps with horizon := (Params.defaults straps).horizon }
  readerRx := []
  extPin := s.extPin
  resetPin := s.resetPin
  supplyLost := s.supplyLost
  now := s.now
  pending := s.pending
  freeCount := s.freeCount

/-- The part is held in reset (R139, R170): the stop line is asserted and a frame the transmitter has
begun is cut off. -/
def State.holdInReset (s : State) : State :=
  (s.setCtl { s.ctl with line := .asserted }).setLink { s.link with transmitting := none }

/-- The release of a reset, when nothing else holds the part in reset (R170, R171). -/
def State.releaseReset (s : State) (straps : Straps) : State :=
  if s.held then s else s.resetBlocks straps

/-- The end of the load without fault enters LISTEN (R140): listen timer, beacon timer armed from
the seed (R126), external-stop input taken (R151), authority period timer (R165). -/
def Work.enterListen (w : Work) : Work :=
  let s := w.s.setMode .listen
  let s := s.setCtl { s.ctl with listenFrom := some s.now, external := s.extPin }
  let s := s.setBeacon { s.beacon with
    timer := some (s.now + s.config.params.beaconPeriod
      + jitterDraw s.beacon.jitter s.config.params.beaconJitter) }
  let s := s.setLink { s.link with authTimer := some (s.now + s.config.params.authPeriod) }
  let w : Work := { w with s := s, recompute := true, modeChanged := true }
  if s.extPin then w.raise .external else w

/-- The link rate becomes the one the record carried (R175). A frame whose reception is under way when
the rate changes is lost; a rate equal to the one in force changes none. -/
def State.changeRate (s : State) (rate : LinkRate) : State :=
  (s.setConfig { s.config with linkRate := rate, pendingRate := none }).setLink
    { s.link with rxCut := s.link.rxCut || (rate != s.config.linkRate && !s.link.rx.isEmpty) }

/-- The record's LINK_RATE is put in force; a change waits while the transmitter is in a frame (R175).
A record that gives the rate in force orders no change. -/
def State.orderRate (s : State) (rate : LinkRate) : State :=
  if rate = s.config.linkRate then s
  else
    match s.link.transmitting with
    | none => s.changeRate rate
    | some _ => s.setConfig { s.config with pendingRate := some rate }

/-- The Configuration Loader's items after a record is applied (R173, R174). -/
def ConfigLoader.apply (c : ConfigLoader) (pairs : List (ParamId × Nat))
    (classes : List (ClassEntry × Bool)) : ConfigLoader :=
  let ps := applyPairs c.params pairs
  let raised := raiseFloors ps.1
  { c with
    params := raised.1
    classes := classes.map (·.1)
    horizon := raised.1.horizon
    clamped := c.clamped || ps.2 || (classes.any (·.2)) || raised.2 }

/-- The Configuration Loader's items after a load that found no record (R172, R174). -/
def ConfigLoader.standDefaults (c : ConfigLoader) : ConfigLoader :=
  let raised := raiseFloors c.params
  { c with
    params := raised.1
    horizon := raised.1.horizon
    defaults := true
    clamped := c.clamped || raised.2 }

/-- The load ends with a fault (R140, R172). -/
def State.loadFault (s : State) (f : InitFault) : State :=
  (s.setCtl { s.ctl with initFault := f }).setConfig { s.config with loading := false }

/-- The load ends without fault: the loader's items, the ready flag, the link rate, LISTEN (R175). -/
def Work.loadDone (w : Work) (c : ConfigLoader) (rate : Option LinkRate) : Work :=
  let s := w.s.setConfig { c with ready := true, loading := false }
  let s := match rate with | none => s | some r => s.orderRate r
  ({ w with s := s } : Work).enterListen

/-- The end of the configuration load (R172). -/
def Work.loadEnd (w : Work) (memory : List Byte) : Work :=
  let id := w.s.config.straps.stationId.toNat
  if id < 1 ∨ 250 < id then w.on (·.loadFault .badId)
  else
    match readRecord memory with
    | .noRecord => w.loadDone w.s.config.standDefaults none
    | .bad => w.on (·.loadFault .configBad)
    | .record pairs classes =>
      let c := w.s.config.apply pairs classes
      w.loadDone c
        (if pairs.any fun iv => iv.1 == .linkRate then some (.ofCode c.params.linkRate) else none)

end Sys2Proof.Machine
end

