-- ==== Sys2Proof/Machine/Requests.lean ====
section
/-!
DEFINITION. Requests (spec/09): how a request is taken (R156), checked (R157) and answered (R158),
and what each does past those checks: its work on the state, its result code and its result payload.
-/

namespace Sys2Proof.Machine

/-! ### Taking and answering (R156 to R158) -/

/-- Is a response built and not yet sent (R156)? One whose frame the transmitter has begun is not
yet sent (notes/assumptions/6.md). -/
def DriveLink.responseWaiting (l : DriveLink) : Bool :=
  (l.outgoing.any (·.isResponse))
    || (match l.transmitting with | some x => x.isResponse | none => false)

/-- The taking of a request (R156): the state without it in the intake, or none when it cannot be
taken now. With an empty intake the request arrives and is taken at once (notes/assumptions/6.md). -/
def State.takeRequest (s : State) (f : Frame) : Option State :=
  if s.link.responseWaiting then none
  else
    match s.link.intake with
    | [] => some s
    | x :: rest => if x = f then some (s.setLink { s.link with intake := rest }) else none

/-- The response joins the outgoing order and becomes the last result (R157, R158). -/
def State.respond (s : State) (type : Byte) (code : ResultCode) (result : List Byte) : State :=
  s.setLink { s.link with
    outgoing := s.link.outgoing ++ [.response type code result]
    lastResult := some (type, code) }

/-- What a request does: its work, its result code and its result payload. -/
structure Answer where
  work : Work
  code : ResultCode
  result : List Byte
  deriving DecidableEq, Repr

/-- A request that does its work and answers a code. -/
def Work.answer (w : Work) (code : ResultCode) : Answer := ⟨w, code, []⟩

/-- A request answered with data. -/
def Work.answerWith (w : Work) (result : List Byte) : Answer := ⟨w, .done, result⟩

/-- The event of a taken request: its work, the end of the event, the response after it (R157). -/
def State.answered (s : State) (type : Byte) (f : Work → Answer) : State :=
  let a := f ⟨s, false, false, false, false, false, true⟩
  (((a.work.settle s).close).respond type a.code a.result).transmit

/-- A request of a type whose payload has `n` bytes (R157, checks 2 and 3), past which `f` is its
own. -/
def State.request (s : State) (type : Byte) (n : Nat) (payload : List Byte)
    (f : Work → Answer) : State :=
  if s.held then s
  else
    match s.takeRequest ⟨type, payload⟩ with
    | none => s
    | some t => t.answered type fun w =>
      if t.ctl.mode = .init ∧ type ≠ 0x01#8 then w.answer .notReady
      else if payload.length ≠ n then w.answer .malformed
      else f w

/-! ### Diagnostic requests (R160 to R163) -/

/-- The number of live peer entries (R64). -/
def PeerTable.count (t : PeerTable) : Nat := t.entries.length

/-- The payload of STATUS, 16 bytes (R160, R180). -/
def State.statusPayload (s : State) : List Byte :=
  [byteOf (bit 1 s.config.ready + bit 2 s.config.defaults + bit 4 s.config.clamped),
    byteOf s.ctl.initFault.code, s.config.straps.stationId, byteOf s.ctl.mode.code]
    ++ bytes16 s.ctl.causes.toNat
    ++ [causeField s.ctl.first, byteOf s.route.state.code, byteOf s.route.entries.length,
      byteOf s.claims.list.length, byteOf s.peers.count, byteOf s.claims.urgency,
      byteOf s.claims.deferral, byteOf s.link.latched.toNat]
    ++ (match s.link.lastResult with
      | none => [0#8, 0#8]
      | some (ty, code) => [ty, byteOf code.code])

/-- A claim record of READ_CLAIMS, 17 bytes (R161, R180). -/
def Claim.record (c : Claim) : List Byte :=
  bytes16 c.index ++ bytesOfHalf c.cell ++ [byteOf c.state.code, byteOf c.announce,
    byteOf (bit 1 c.firstAnnounce.isSome + bit 2 c.heldSince.isSome + bit 4 c.crane.isSome)]
    ++ bytes32 (c.firstAnnounce.getD 0) ++ bytes32 (c.heldSince.getD 0) ++ craneField c.crane

/-- The payload of READ_CLAIMS (R161, R180). -/
def State.claimsPayload (s : State) : List Byte :=
  byteOf s.claims.list.length :: (s.claims.list.map (·.record)).flatten

/-- The payload of READ_PEER for a slot that holds an entry (R161, R180). -/
def State.peerPayload (s : State) (slot : Byte) (e : PeerEntry) : List Byte :=
  [slot, e.id, e.seq, byteOf e.mode.code, byteOf e.urgency, byteOf e.deferral]
    ++ bytesOfHalf e.posCell ++ bytes16 e.posOffset ++ bytes16 e.speed ++ [byteOf e.age.code]
    ++ bytes32 (s.now - e.lastHeard) ++ [byteOf e.claims.length]
    ++ (e.claims.map fun p => claimField p.cell p.state p.crane).flatten

/-- STATUS (R160). -/
def Work.status (w : Work) : Answer := w.answerWith w.s.statusPayload

/-- READ_CLAIMS (R161). -/
def Work.readClaims (w : Work) : Answer := w.answerWith w.s.claimsPayload

/-- READ_PEER (R161). -/
def Work.readPeer (w : Work) (slot : Byte) : Answer :=
  if Config.peerSlots ≤ slot.toNat then w.answer .malformed
  else
    match w.s.peers.entryIn slot.toNat with
    | none => w.answer .noSuchPeer
    | some e => w.answerWith (w.s.peerPayload slot e)

/-- READ_COUNTERS (R162). -/
def Work.readCounters (w : Work) : Answer :=
  w.answerWith (w.s.link.counters.toList.map bytes16).flatten

/-- CLEAR_COUNTERS (R162). -/
def Work.clearCounters (w : Work) : Answer :=
  (w.on fun s => s.setLink { s.link with counters := .zero }).answer .done

/-- CLEAR_LATCHED (R163). -/
def Work.clearLatched (w : Work) : Answer :=
  (w.on fun s => s.setLink { s.link with latched := .clear }).answer .done

/-! ### Route Store (R8 to R17) -/

/-- The checks of R8 on a route block, and the result of the first that fails. -/
def State.blockRefusal (s : State) (block : List RouteSlot) : Option ResultCode :=
  let real := realSlots block
  if s.route.state = .truncating then some .busy
  else if !blockInOrder block || !(real.all fun x => x.valid (s.classOf x.cell).craneSpot) then
    some .malformed
  else if !noRepeat (real.map (·.cell))
      || (real.any fun x => s.route.entries.any fun e => e.cell == x.cell) then
    some .routeRepeat
  else if Config.maxLiveEntries < s.route.entries.length + real.length
      ∨ Config.maxRouteIndex < s.route.nextIndex + real.length - 1 then
    some .routeFull
  else none

/-- The entries of a block appended (R9). -/
def State.append (s : State) (block : List RouteSlot) : State :=
  let real := realSlots block
  s.setRoute { s.route with
    entries := s.route.entries ++ real.map (·.entry)
    nextIndex := s.route.nextIndex + real.length
    state := if s.route.state = .empty then .active else s.route.state }

/-- The carry onto appended entries (R30), or claiming ahead alone (R9, R45). The model's choice where the
front bound alone lies beyond the old last entry, by u: the carry moves nothing, so there is no position
change, and the new entries are entered at the next one (R52; notes/assumptions/31.md). -/
def Work.carryAppended (w : Work) : Work :=
  match w.s.pos.pos with
  | some p =>
    if w.s.route.carryOn p = p then w.on (·.claimAhead)
    else
      (w.on fun s => s.setPos { s.pos with pos := some (s.route.carryOn p) }).positionChange
  | none => w.on (·.claimAhead)

/-- APPEND_ROUTE (R8, R9, R30). -/
def Work.appendRoute (w : Work) (payload : List Byte) : Answer :=
  let block := routeSlots payload
  match w.s.blockRefusal block with
  | some code => w.answer code
  | none =>
    ({ w.on (·.append block) with claimsAlone := false } : Work).carryAppended.answer .done

/-- The claims a truncation keeps (R13): the OCCUPIED ones, and the HELD ones whose cells start
before the commit point. -/
def State.keptClaims (s : State) : List Claim :=
  let commit := s.commit?
  s.claims.list.filter fun c =>
    c.state == .occupied || (c.state == .held && !s.beyondCommit commit c)

/-- The index of the last live entry a truncation keeps (R13): the last kept claim's, or the first
live entry's when no claim is kept. -/
def State.lastKept (s : State) : Nat :=
  match s.keptClaims.getLast? with
  | some c => c.index
  | none => s.route.first

/-- The odometric position after entries beyond index `last` are discarded (R30). -/
def State.placedPosition (s : State) (last : Nat) : Option RoutePos :=
  s.pos.pos.map fun p =>
    if last < p.index then ⟨last, s.route.distance p - s.route.startOf last⟩ else p

/-- A truncation taken with the route ACTIVE after start (R13, R30, R62). -/
def State.truncate (s : State) : State :=
  let last := s.lastKept
  let pos := s.placedPosition last
  let kept := s.route.entries.take (last + 1 - s.route.first)
  let s1 := s.setClaims { s.claims with list := s.keptClaims, backoff := none }
  let s2 := s1.setRoute { s.route with
    entries := kept, nextIndex := s.route.first + kept.length, state := .truncating }
  s2.setPos { s.pos with pos := pos }

/-- TRUNCATE_ROUTE (R12, R13). -/
def Work.truncateRoute (w : Work) : Answer :=
  match w.s.route.state with
  | .truncating => w.answer .busy
  | .empty => w.answer .done
  | .active =>
    if w.s.pos.start then (w.on (·.truncate)).answer .accepted
    else (w.on fun s => s.setRoute .reset).answer .done

/-- PROCEED (R17). DEDUCED: an AUTHORITY message goes out at once when the release has
shortened the length (notes/assumptions/29.md). -/
def Work.proceed (w : Work) : Answer :=
  if w.s.ctl.mode = .listen then w.answer .modeRefused
  else
    match w.s.route.firstStop with
    | none => w.answer .noStopPoint
    | some _ =>
      (w.on fun s =>
        (s.setRoute { s.route with entries := releaseFirst s.route.entries }).claimAhead).owe.answer
        .done

/-! ### Position Unit, Claim Engine, Peer Table, Beacon Unit -/

/-- SET_START (R36, R37). -/
def Work.setStart (w : Work) (index : Byte) (offset : Half) : Answer :=
  if w.s.ctl.mode ≠ .listen ∨ w.s.pos.start = true then w.answer .modeRefused
  else
    match w.s.startRefusal index.toNat offset.toNat with
    | some code => w.answer code
    | none => (w.start index.toNat offset.toNat).answer .done

/-- SET_URGENCY (R58). -/
def Work.setUrgency (w : Work) (v : Byte) : Answer :=
  (w.on fun s => s.setClaims { s.claims with urgency := min 3 v.toNat }).answer
    (if 3 < v.toNat then .doneClamped else .done)

/-- CLEAR_PEER (R81). -/
def Work.clearPeer (w : Work) (id : StationId) : Answer :=
  match w.s.peers.slotOf id with
  | none => w.answer .noSuchPeer
  | some k =>
    match w.s.peers.entryIn k with
    | none => w.answer .noSuchPeer
    | some e => if e.age = .fresh then w.answer .peerFresh else (w.dropPeer k).answer .done

/-- AIR_RESET (R135). -/
def Work.airReset (w : Work) : Answer := (w.on (·.resetAir)).answer .done

/-! ### Mode Controller (R147 to R150) -/

/-- Entering PARKED (R149, R61). -/
def Work.enterParked (w : Work) : Work :=
  let s := (w.s.setMode .parked).dropUnoccupied
  let s := s.setClaims { s.claims with backoff := none }
  let s := s.setBeacon { s.beacon with parkedCount := 0 }
  { w with s := s.emptyOutstanding, recompute := true, modeChanged := true }

/-- PARK (R149). -/
def Work.park (w : Work) : Answer :=
  if w.s.ctl.mode ≠ .serving then w.answer .modeRefused
  else if w.s.pos.speed ≠ 0 then w.answer .moving
  else w.enterParked.answer .done

/-- UNPARK (R150). -/
def Work.unpark (w : Work) : Answer :=
  if w.s.ctl.mode ≠ .parked then w.answer .modeRefused else w.enterServing.answer .done

/-- The causes and marks are cleared at a successful RESUME (R148, step 1). -/
def State.clearCauses (s : State) : State :=
  s.setCtl { s.ctl with
    causes := .none, first := none, markPositionLost := false, markOffRoute := false
    markAirFault := false }

/-- A successful RESUME (R148). -/
def Work.resumed (w : Work) : Work :=
  let w := w.on (·.clearCauses)
  if w.s.ctl.listenDone then w.enterServing
  else { w with s := w.s.setMode .listen, recompute := true, modeChanged := true }

/-- RESUME (R147). -/
def Work.resume (w : Work) : Answer :=
  if w.s.ctl.mode ≠ .stopped then w.answer .modeRefused
  else if w.s.pos.speed ≠ 0 then w.answer .moving
  else if !w.s.unsatisfied.isEmpty then
    ⟨w, .causeActive, bytes16 w.s.ctl.causes.toNat ++ bytes16 w.s.unsatisfied.toNat⟩
  else w.resumed.answer .done

/-! ### Configuration Loader (R176 to R178) -/

/-- A parameter stored with its clamp, the raises of R174 and the horizon (R176). -/
def ConfigLoader.store (c : ConfigLoader) (i : ParamId) (v : Nat) : ConfigLoader :=
  let raised := raiseFloors (c.params.put (i.clamp v) i)
  { c with
    params := raised.1
    horizon := raised.1.horizon
    clamped := c.clamped || i.clamp v != v || raised.2 }

/-- Was a value clamped or any raise made in storing it (R176)? -/
def ConfigLoader.storeClamps (c : ConfigLoader) (i : ParamId) (v : Nat) : Bool :=
  i.clamp v != v || (raiseFloors (c.params.put (i.clamp v) i)).2

/-- A change of VEHICLE_LENGTH after start (R24, R25). -/
def Work.lengthChanged (w : Work) : Work :=
  let w := match w.s.rear? with
    | some rear => if rear < 0 then w.raise .positionLost else w
    | none => w
  w.positionChange

/-- The listen timer expires (R141, R142). -/
def Work.listenExpired (w : Work) : Work :=
  (w.on fun s => s.setCtl { s.ctl with listenFrom := none, listenDone := true }).listenExit

/-- Has the listen timer's moment come (R141)? -/
def State.listenDue (s : State) : Bool :=
  match s.ctl.listenFrom with
  | none => false
  | some t => decide (t + s.config.params.listenMs ≤ s.now)

/-- What a new value does at once (R24, R68, R141, R176); `old` is the parameter set before. -/
def Work.paramEffects (w : Work) (old : Params) : Work :=
  let w :=
    if w.s.pos.start = true ∧ w.s.config.params.vehicleLength ≠ old.vehicleLength then
      w.lengthChanged
    else w
  let w :=
    if w.s.pos.start = true ∧ w.s.pos.sinceFix ≤ old.fixGapMax
        ∧ w.s.config.params.fixGapMax < w.s.pos.sinceFix then
      w.raise .positionLost
    else w
  let w :=
    if w.s.config.params.peerStale ≠ old.peerStale
        ∨ w.s.config.params.peerExpire ≠ old.peerExpire then
      w.ageAll
    else w
  if w.s.config.params.listenMs ≠ old.listenMs ∧ w.s.listenDue = true then w.listenExpired else w

/-- A configuration request outside LISTEN is refused and latched (R176, R177). -/
def Work.lockedOut (w : Work) : Answer := (w.on (·.latch .configWriteRefused)).answer .locked

/-- SET_PARAM (R176). -/
def Work.setParam (w : Work) (id : Byte) (v : Nat) : Answer :=
  if w.s.ctl.mode ≠ .listen then w.lockedOut
  else
    match ParamId.ofByte id with
    | none => w.answer .malformed
    | some i =>
      if i = .linkRate then w.answer .malformed
      else
        let old := w.s.config
        ((w.on fun s => s.setConfig (s.config.store i v)).paramEffects old.params).answer
          (if old.storeClamps i v then .doneClamped else .done)

/-- SET_CLASS (R177). -/
def Work.setClass (w : Work) (index : Byte) (cap : Half) (flags : Byte) (hold : Half) : Answer :=
  if w.s.ctl.mode ≠ .listen then w.lockedOut
  else if 15 < index.toNat then w.answer .malformed
  else
    let e := classEntry cap flags hold
    (w.on fun s => s.setConfig { s.config with
      classes := s.config.classes.set index.toNat e.1
      clamped := s.config.clamped || e.2 }).answer
      (if e.2 then .doneClamped else .done)

/-- The types of requests (R157, R180): 0x01 to 0x13. -/
def isRequestType (type : Byte) : Bool := decide (1 ≤ type.toNat) && decide (type.toNat ≤ 19)

/-- A taken request of a type that is not a request type (R157, check 1). -/
def State.unknown (s : State) (type : Byte) (payload : List Byte) : State :=
  if s.held = true ∨ isRequestType type = true then s
  else
    match s.takeRequest ⟨type, payload⟩ with
    | none => s
    | some t => t.answered type fun w => w.answer .unknownRequest

end Sys2Proof.Machine
end

