-- ==== Sys2Proof/Machine/Arrivals.lean ====
section
/-!
DEFINITION. Arrivals on the drive link and the reader line (R156, R167, R182), the transmitter's
frame sent (R159), the external-stop edge (R151), and the expiry of each timer with the test that its
moment has come.
-/

namespace Sys2Proof.Machine

/-! ### DRIVE_REPORT (R26, R60, R166, R167) -/

/-- An issue that was held back is carried out when an echo frees a slot (R166). -/
def State.issuePending (s : State) : State :=
  if s.link.pendingIssue then
    (s.setLink { s.link with pendingIssue := false }).issueAuthority
  else s

/-- An unmatched report is counted and latched (R167). -/
def State.unmatched (s : State) : State := (s.count .unmatchedReports).latch .unmatchedReport

/-- The echo of a report is matched (R167). -/
def State.matchEcho (s : State) (echo : Byte) : State :=
  if s.ctl.mode = .serving then
    match s.link.outstanding with
    | [] => s.unmatched
    | o :: rest =>
      if o.seq = echo then (s.setLink { s.link with outstanding := rest }).issuePending
      else if rest.any fun x => x.seq == echo then
        (s.setLink { s.link with outstanding := [] }).issuePending
      else s.unmatched
  else if s.link.lastSent = some echo then s
  else s.unmatched

/-- HELD claims are dropped by a report of speed 0 taken while STOPPED, once the report's own
handling is complete (R60). -/
def Work.dropAtRest (v : Nat) (w : Work) : Work :=
  if w.s.ctl.mode = .stopped ∧ v = 0 then w.on (·.dropHeld) else w

/-- A good DRIVE_REPORT (R156, R167, R26, R27, R60): discarded whole in INIT; otherwise its echo, its
speed and its distance, the recomputation, and the drop at rest. -/
def State.takeReport (s : State) (echo : Byte) (d v : Nat) : State :=
  if s.ctl.mode = .init then s
  else
    let w : Work := ⟨(s.matchEcho echo).takeSpeed v, false, false, false, false, false, true⟩
    ((((w.takeDistance d).settle s).dropAtRest v).close).transmit

/-! ### The drive link's receiver (R156, R180) -/

/-- A request that arrives joins the intake, or is discarded when it holds 4 (R156). -/
def State.arrive (s : State) (f : Frame) : State :=
  if s.link.intake.length < Config.maxIntake then
    s.setLink { s.link with intake := s.link.intake ++ [f] }
  else s.count .linkFramesRejected

/-- An event of the drive link's receiver (R156). -/
def State.linkEvent (s : State) : LinkEvent → State
  | .failed => s.count .linkFramesRejected
  | .good f =>
    if f.type = 0x20#8 then
      match f.payload with
      | [echo, d1, d0, v1, v0] => s.takeReport echo (half d1 d0).toNat (half v1 v0).toNat
      | _ => s.count .linkFramesRejected
    else s.arrive f

/-- Bytes arrive on the drive link (R180): each whole frame is an event of its own. -/
def State.linkBytes (s : State) (bytes : List Byte) : State :=
  let held := s.link.rx ++ bytes
  let r := linkScan (held.length + 1) s.link.rxCut held
  r.1.foldl State.linkEvent (s.setLink { s.link with rx := r.2.1, rxCut := r.2.2 })

/-- The bytes of a drive link frame with the CRC-16 it carries (R180). -/
def linkFrameWith (type : Byte) (payload : List Byte) (crc : Half) : List Byte :=
  0xA5#8 :: type :: byteOf payload.length :: (payload ++ bytesOfHalf crc)

/-! ### The reader line (R31, R182) -/

/-- Bytes arrive on the reader line (R182): each good frame is a transponder read, and an event of
its own; in INIT frames are read and discarded. -/
def State.readerBytes (s : State) (bytes : List Byte) : State :=
  let held := s.readerRx ++ bytes
  let r := readerScan (held.length + 1) held
  let s' : State := { s with readerRx := r.2 }
  if s.ctl.mode = .init then s'
  else r.1.foldl (fun t cell => t.event fun w => w.read cell) s'

/-! ### The external-stop input (R151) -/

/-- The level of the external-stop pin changes (R151): in INIT, and while the part is held in reset,
the input is not taken. -/
def State.externalEdge (s : State) (asserted : Bool) : State :=
  let s := { s with extPin := asserted }
  if s.held = true ∨ s.ctl.mode = .init ∨ s.ctl.external = asserted then s
  else
    let s := s.setCtl { s.ctl with external := asserted }
    s.event fun w => if asserted then w.raise .external else w

/-! ### The transmitter (R159, R178) -/

/-- Is an item the response of an accepted RESTART (R178)? -/
def OutItem.isRestartDone : OutItem → Bool
  | .response ty code _ => ty == 0x13#8 && code == .done
  | _ => false

/-- The transmitter has sent its frame (R159): after the response of a RESTART the reset is due
(R178); otherwise it takes the oldest item. -/
def State.frameSent (s : State) : State :=
  match s.link.transmitting with
  | none => s
  | some x =>
    (s.setLink { s.link with
      transmitting := none
      restartDue := s.link.restartDue || x.isRestartDone }).transmit

/-! ### Timers: the test that their moment has come, and their expiry -/

/-- Has a running timer reached its expiry time? -/
def State.reached (s : State) : Option Nat → Bool
  | none => false
  | some t => decide (t ≤ s.now)

/-- Has the beacon in flight waited 150 ms (R133)? -/
def State.txLimitDue (s : State) : Bool :=
  match s.beacon.inFlight with
  | none => false
  | some b => decide (b.handedAt + Config.txLimitMs ≤ s.now)

/-- Has the oldest outstanding message reached SUPERVISE_MS (R168)? -/
def State.superviseDue (s : State) : Bool :=
  match s.link.outstanding with
  | [] => false
  | o :: _ => decide (o.issued + s.config.params.superviseMs ≤ s.now)

/-- Has the yield-window timer of the claim on entry `i` reached its expiry (R47)? -/
def State.yieldDue (s : State) (i : Nat) : Bool :=
  match s.claimAt i with
  | none => false
  | some c => s.reached c.yieldTimer

/-- Has the entry-hold timer of the claim on entry `i` reached its expiry (R50)? -/
def State.holdDue (s : State) (i : Nat) : Bool :=
  match s.claimAt i with
  | none => false
  | some c => s.reached c.holdTimer

/-- Supervision expires (R168). -/
def Work.supervisionExpired (w : Work) : Work :=
  (w.on fun s => (s.count .supervisionExpiries).emptyOutstanding).raise .driveSilent

/-- The yield-window timer of the claim on entry `i` stops and its promotion is evaluated (R47,
R49). -/
def State.yieldExpired (s : State) (i : Nat) : State :=
  let s := s.setList (s.claims.list.map fun c =>
    if c.index = i then { c with yieldTimer := none } else c)
  let r := s.promoteFrom i
  if r.2 then r.1.claimAhead else r.1

/-- The entry-hold timer of the claim on entry `i` stops (R50). -/
def State.holdExpired (s : State) (i : Nat) : State :=
  s.setList (s.claims.list.map fun c => if c.index = i then { c with holdTimer := none } else c)

/-- The backoff timer stops and claiming ahead is evaluated (R57). -/
def State.backoffExpired (s : State) : State :=
  (s.setClaims { s.claims with backoff := none }).claimAhead

/-- The table-overflow hold stops and claiming ahead is evaluated (R77). -/
def State.holdRunOut (s : State) : State :=
  (s.setPeers { s.peers with hold := none }).claimAhead

/-- The authority period timer expires (R165): re-armed, recomputed and issued. -/
def Work.periodExpired (w : Work) : Work :=
  { w.on fun s => s.setLink { s.link with
      authTimer := some (s.now + s.config.params.authPeriod) } with
    periodic := true }

/-- A step that acts only while the part is not held in reset (R170) and its moment has come. -/
def State.ifDue (s : State) (due : Bool) (f : State → State) : State :=
  if s.held = false ∧ due = true then f s else s

end Sys2Proof.Machine
end

