-- ==== Sys2Proof/Machine/Idle.lean ====
section
/-!
DEFINITION. What the part does of itself when no command waits (notes/assumptions/1.md): its own due
steps, one at a time, and otherwise the passing of one millisecond.
-/

namespace Sys2Proof.Machine

/-- The command that takes a request of the intake (R156, R157). -/
def Frame.command (f : Frame) : Instr :=
  match f.type.toNat with
  | 1 => .status f.payload
  | 2 => .readClaims f.payload
  | 3 => .readPeer f.payload
  | 4 => .readCounters f.payload
  | 5 => .clearCounters f.payload
  | 6 => .clearLatched f.payload
  | 7 => .appendRoute f.payload
  | 8 => .truncateRoute f.payload
  | 9 => .proceed f.payload
  | 10 => .setStart f.payload
  | 11 => .setUrgency f.payload
  | 12 => .park f.payload
  | 13 => .unpark f.payload
  | 14 => .resume f.payload
  | 15 => .clearPeer f.payload
  | 16 => .airReset f.payload
  | 17 => .setParam f.payload
  | 18 => .setClass f.payload
  | 19 => .restart f.payload
  | _ => .unknownRequest f.type f.payload

/-- A step when its moment has come. -/
def whenDue (due : Bool) (c : Instr) : List Instr := if due then [c] else []

/-- The request that can be taken now (R156). -/
def State.dueRequest (s : State) : List Instr :=
  if s.link.responseWaiting then []
  else
    match s.link.intake with
    | [] => []
    | f :: _ => [f.command]

/-- The part's own steps that are due now. The reset of a RESTART comes as soon as its response has
been sent, before any other (R159). An entry that becomes STALE and is removed at one expiry has that one
step (R79). -/
def State.due (s : State) : List Instr :=
  if s.held then []
  else if s.link.restartDue then [.restartTakesEffect]
  else
    whenDue (s.config.pendingRate.isSome && s.link.transmitting.isNone) .linkRateChange
      ++ s.dueRequest
      ++ whenDue (s.reached s.beacon.timer) .beaconTimerExpiry
      ++ whenDue s.txLimitDue .beaconTxTimeout
      ++ whenDue s.listenDue .listenTimerExpiry
      ++ whenDue (s.reached s.link.authTimer) .authorityPeriodExpiry
      ++ whenDue s.superviseDue .supervisionExpiry
      ++ (s.claims.list.flatMap fun c => whenDue (s.yieldDue c.index) (.yieldWindowExpiry c.index))
      ++ (s.claims.list.flatMap fun c => whenDue (s.holdDue c.index) (.entryHoldExpiry c.index))
      ++ whenDue (s.reached s.claims.backoff) .backoffExpiry
      ++ whenDue (s.reached s.peers.hold) .tableOverflowHoldExpiry
      ++ ((List.range Config.peerSlots).flatMap fun k =>
        whenDue (s.staleDue k && !s.expireDue k) (.peerStale k))
      ++ ((List.range Config.peerSlots).flatMap fun k => whenDue (s.expireDue k) (.peerExpire k))

/-- The state with an empty queue moves on: the one due step, or the one the free value chooses
among several (notes/assumptions/2.md), is put in the queue; when none is due the time base advances
by 1 ms. -/
def State.idle (s : State) : State :=
  match s.due with
  | [] => { s with now := s.now + 1 }
  | [c] => { s with pending := [c] }
  | c :: c' :: cs =>
    { s with
      pending := [(c :: c' :: cs).getD (Config.tieBreak s.freeCount % (cs.length + 2)) c]
      freeCount := s.freeCount + 1 }

end Sys2Proof.Machine
end

