-- ==== Sys2Proof/Machine/Lines.lean ====
section
/-!
DEFINITION. Meanings of the resets, lines, configuration and drive link commands.
-/

namespace Sys2Proof.Machine

/-- What a command answers: every command of the part has an effect or leaves the state as it is. -/
abbrev Result := Host.Outcome State Fault Refusal

/-- POWER_ON_RESET (R170): the supply has settled; unless the reset pin still holds the part, the
straps are latched and every block takes its reset state. -/
def execPowerOnReset (straps : Straps) (s : State) : Result :=
  .next ({ s with supplyLost := false }.releaseReset straps)

/-- PIN_RESET (R170): the reset pin is released; unless the supply still holds the part in reset, it
behaves as at power-on reset. -/
def execPinReset (straps : Straps) (s : State) : Result :=
  .next ({ s with resetPin := false }.releaseReset straps)

/-- RESET_PIN_ASSERTED (R139, R155, R170). -/
def execResetPinAsserted (s : State) : Result := .next ({ s with resetPin := true }.holdInReset)

/-- POWER_LOSS (R139, R155, R170). -/
def execPowerLoss (s : State) : Result := .next ({ s with supplyLost := true }.holdInReset)

/-- CONFIGURATION_LOAD_END (R172 to R175, R140), while a load is in progress. -/
def execConfigurationLoadEnd (memory : List Byte) (s : State) : Result :=
  .next (s.ifDue s.config.loading fun s => s.event fun w => w.loadEnd memory)

/-- LINK_RATE_CHANGE (R175): a rate that waits is put in force once the transmitter has finished the
frame it had begun, and the transmitter goes on. -/
def execLinkRateChange (s : State) : Result :=
  .next (s.ifDue s.link.transmitting.isNone fun s =>
    match s.config.pendingRate with
    | none => s
    | some r => (s.changeRate r).transmit)

/-- RESTART_TAKES_EFFECT (R178): every block takes its RESTART state, the latched straps are kept and
the record is loaded afresh. -/
def execRestartTakesEffect (s : State) : Result :=
  .next (s.ifDue s.link.restartDue fun s => s.resetBlocks s.config.straps)

/-- EXTERNAL_STOP_EDGE (R151). -/
def execExternalStopEdge (asserted : Bool) (s : State) : Result := .next (s.externalEdge asserted)

/-- DRIVE_LINK_REQUEST_ARRIVAL (R156, R180). -/
def execDriveLinkRequestArrival (bytes : List Byte) (s : State) : Result :=
  .next (s.ifDue true fun s => s.linkBytes bytes)

/-- DRIVE_REPORT (R156, R167, R180): the bytes of its frame reach the receiver. -/
def execDriveReport (payload : List Byte) (crc : Half) (s : State) : Result :=
  .next (s.ifDue true fun s => s.linkBytes (linkFrameWith 0x20#8 payload crc))

/-- TRANSMITTER_FRAME_SENT (R159). -/
def execTransmitterFrameSent (s : State) : Result := .next (s.ifDue true State.frameSent)

end Sys2Proof.Machine
end

