-- ==== Sys2Proof/Machine/AirMeanings.lean ====
section
/-!
DEFINITION. Meanings of the air port, reader line and timer commands.
-/

namespace Sys2Proof.Machine

/-- BEACON_TIMER_EXPIRY (R126 to R128). -/
def execBeaconTimerExpiry (s : State) : Result :=
  .next (s.ifDue (s.reached s.beacon.timer) fun s => s.rearmBeacon.beaconTurn)

/-- TX_DONE (R131 to R133, R182): the bytes of its frame reach the air port's receiver. -/
def execTxDone (body : List Byte) (s : State) : Result :=
  .next (s.ifDue true fun s => s.airBytes (modemFrame 0x02#8 body))

/-- BEACON_TX_TIMEOUT (R133). -/
def execBeaconTxTimeout (s : State) : Result :=
  .next (s.ifDue s.txLimitDue fun s => s.event Work.beaconFailed)

/-- RX_FRAME (R134, R182): the bytes of its frame reach the air port's receiver. -/
def execRxFrame (body : List Byte) (s : State) : Result :=
  .next (s.ifDue true fun s => s.airBytes (modemFrame 0x03#8 body))

/-- MODEM_FRAME_OTHER_KIND (R182). -/
def execModemFrameOtherKind (bytes : List Byte) (s : State) : Result :=
  .next (s.ifDue true fun s => s.airBytes bytes)

/-- TRANSPONDER_READ (R31 to R35, R182). -/
def execTransponderRead (bytes : List Byte) (s : State) : Result :=
  .next (s.ifDue true fun s => s.readerBytes bytes)

/-- LISTEN_TIMER_EXPIRY (R141, R142). -/
def execListenTimerExpiry (s : State) : Result :=
  .next (s.ifDue s.listenDue fun s => s.event Work.listenExpired)

/-- AUTHORITY_PERIOD_EXPIRY (R165). -/
def execAuthorityPeriodExpiry (s : State) : Result :=
  .next (s.ifDue (s.reached s.link.authTimer) fun s => s.event Work.periodExpired)

/-- SUPERVISION_EXPIRY (R168). -/
def execSupervisionExpiry (s : State) : Result :=
  .next (s.ifDue s.superviseDue fun s => s.event Work.supervisionExpired)

/-- YIELD_WINDOW_EXPIRY (R47, R49). -/
def execYieldWindowExpiry (routeIndex : Nat) (s : State) : Result :=
  .next (s.ifDue (s.yieldDue routeIndex) fun s =>
    s.event fun w => w.on (·.yieldExpired routeIndex))

/-- ENTRY_HOLD_EXPIRY (R50). -/
def execEntryHoldExpiry (routeIndex : Nat) (s : State) : Result :=
  .next (s.ifDue (s.holdDue routeIndex) fun s =>
    s.event fun w => (w.on (·.holdExpired routeIndex)).owe)

/-- BACKOFF_EXPIRY (R57). -/
def execBackoffExpiry (s : State) : Result :=
  .next (s.ifDue (s.reached s.claims.backoff) fun s => s.event fun w => w.on (·.backoffExpired))

/-- TABLE_OVERFLOW_HOLD_EXPIRY (R77). -/
def execTableOverflowHoldExpiry (s : State) : Result :=
  .next (s.ifDue (s.reached s.peers.hold) fun s => s.event fun w => w.on (·.holdRunOut))

/-- PEER_STALE (R78): no peer-table change, and nothing handed on. Where PEER_EXPIRE has passed at the
same expiry, the entry becomes STALE and is removed at once (R79). -/
def execPeerStale (slot : Nat) (s : State) : Result :=
  .next (s.ifDue (s.staleDue slot) fun s =>
    if s.expireDue slot then s.event fun w => w.ageSlot slot else s.makeStale slot)

/-- PEER_EXPIRE (R79). -/
def execPeerExpire (slot : Nat) (s : State) : Result :=
  .next (s.ifDue (s.expireDue slot) fun s => s.event fun w => w.dropPeer slot)

end Sys2Proof.Machine
end

