-- ==== Sys2Proof/Machine/RequestMeanings.lean ====
section
/-!
DEFINITION. Meanings of the taken requests: each with its type and the length of its payload (R180).
A payload of another length never reaches the last arm of a match (R157, check 3).
-/

namespace Sys2Proof.Machine

/-- STATUS (R160). -/
def execStatus (payload : List Byte) (s : State) : Result :=
  .next (s.request 0x01#8 0 payload Work.status)

/-- READ_CLAIMS (R161). -/
def execReadClaims (payload : List Byte) (s : State) : Result :=
  .next (s.request 0x02#8 0 payload Work.readClaims)

/-- READ_PEER (R161). -/
def execReadPeer (payload : List Byte) (s : State) : Result :=
  .next (s.request 0x03#8 1 payload fun w =>
    match payload with
    | [slot] => w.readPeer slot
    | _ => w.answer .malformed)

/-- READ_COUNTERS (R162). -/
def execReadCounters (payload : List Byte) (s : State) : Result :=
  .next (s.request 0x04#8 0 payload Work.readCounters)

/-- CLEAR_COUNTERS (R162). -/
def execClearCounters (payload : List Byte) (s : State) : Result :=
  .next (s.request 0x05#8 0 payload Work.clearCounters)

/-- CLEAR_LATCHED (R163). -/
def execClearLatched (payload : List Byte) (s : State) : Result :=
  .next (s.request 0x06#8 0 payload Work.clearLatched)

/-- APPEND_ROUTE (R8, R9). -/
def execAppendRoute (payload : List Byte) (s : State) : Result :=
  .next (s.request 0x07#8 160 payload fun w => w.appendRoute payload)

/-- TRUNCATE_ROUTE (R12, R13). -/
def execTruncateRoute (payload : List Byte) (s : State) : Result :=
  .next (s.request 0x08#8 0 payload Work.truncateRoute)

/-- PROCEED (R17). -/
def execProceed (payload : List Byte) (s : State) : Result :=
  .next (s.request 0x09#8 0 payload Work.proceed)

/-- SET_START (R36, R37). -/
def execSetStart (payload : List Byte) (s : State) : Result :=
  .next (s.request 0x0A#8 3 payload fun w =>
    match payload with
    | [i, o1, o0] => w.setStart i (half o1 o0)
    | _ => w.answer .malformed)

/-- SET_URGENCY (R58). -/
def execSetUrgency (payload : List Byte) (s : State) : Result :=
  .next (s.request 0x0B#8 1 payload fun w =>
    match payload with
    | [v] => w.setUrgency v
    | _ => w.answer .malformed)

/-- PARK (R149). -/
def execPark (payload : List Byte) (s : State) : Result :=
  .next (s.request 0x0C#8 0 payload Work.park)

/-- UNPARK (R150). -/
def execUnpark (payload : List Byte) (s : State) : Result :=
  .next (s.request 0x0D#8 0 payload Work.unpark)

/-- RESUME (R147, R148). -/
def execResume (payload : List Byte) (s : State) : Result :=
  .next (s.request 0x0E#8 0 payload Work.resume)

/-- CLEAR_PEER (R81). -/
def execClearPeer (payload : List Byte) (s : State) : Result :=
  .next (s.request 0x0F#8 1 payload fun w =>
    match payload with
    | [id] => w.clearPeer id
    | _ => w.answer .malformed)

/-- AIR_RESET (R135). -/
def execAirReset (payload : List Byte) (s : State) : Result :=
  .next (s.request 0x10#8 0 payload Work.airReset)

/-- SET_PARAM (R176). -/
def execSetParam (payload : List Byte) (s : State) : Result :=
  .next (s.request 0x11#8 5 payload fun w =>
    match payload with
    | [i, a, b, c, d] => w.setParam i (word32 a b c d)
    | _ => w.answer .malformed)

/-- SET_CLASS (R177). -/
def execSetClass (payload : List Byte) (s : State) : Result :=
  .next (s.request 0x12#8 6 payload fun w =>
    match payload with
    | [k, c1, c0, f, h1, h0] => w.setClass k (half c1 c0) f (half h1 h0)
    | _ => w.answer .malformed)

/-- RESTART (R178): the response; its reset is RESTART_TAKES_EFFECT. -/
def execRestart (payload : List Byte) (s : State) : Result :=
  .next (s.request 0x13#8 0 payload fun w => w.answer .done)

/-- UNKNOWN_REQUEST (R157, check 1; R180). -/
def execUnknownRequest (type : Byte) (payload : List Byte) (s : State) : Result :=
  .next (s.unknown type payload)

end Sys2Proof.Machine
end

