-- ==== Sys2Proof/Machine/Dispatch.lean ====
section
/-!
DEFINITION. The dispatch of commands to their meanings.
-/

namespace Sys2Proof.Machine

/-- A command's effect on everything but the queue. -/
def exec (i : Instr) (s : State) : Host.Outcome State Fault Refusal :=
  match i with
  | .powerOnReset straps => Sys2Proof.Machine.execPowerOnReset straps s
  | .pinReset straps => Sys2Proof.Machine.execPinReset straps s
  | .configurationLoadEnd memory => Sys2Proof.Machine.execConfigurationLoadEnd memory s
  | .linkRateChange => Sys2Proof.Machine.execLinkRateChange s
  | .driveLinkRequestArrival bytes => Sys2Proof.Machine.execDriveLinkRequestArrival bytes s
  | .driveReport payload crc => Sys2Proof.Machine.execDriveReport payload crc s
  | .status payload => Sys2Proof.Machine.execStatus payload s
  | .readClaims payload => Sys2Proof.Machine.execReadClaims payload s
  | .readPeer payload => Sys2Proof.Machine.execReadPeer payload s
  | .readCounters payload => Sys2Proof.Machine.execReadCounters payload s
  | .clearCounters payload => Sys2Proof.Machine.execClearCounters payload s
  | .clearLatched payload => Sys2Proof.Machine.execClearLatched payload s
  | .appendRoute payload => Sys2Proof.Machine.execAppendRoute payload s
  | .truncateRoute payload => Sys2Proof.Machine.execTruncateRoute payload s
  | .proceed payload => Sys2Proof.Machine.execProceed payload s
  | .setStart payload => Sys2Proof.Machine.execSetStart payload s
  | .setUrgency payload => Sys2Proof.Machine.execSetUrgency payload s
  | .park payload => Sys2Proof.Machine.execPark payload s
  | .unpark payload => Sys2Proof.Machine.execUnpark payload s
  | .resume payload => Sys2Proof.Machine.execResume payload s
  | .clearPeer payload => Sys2Proof.Machine.execClearPeer payload s
  | .airReset payload => Sys2Proof.Machine.execAirReset payload s
  | .setParam payload => Sys2Proof.Machine.execSetParam payload s
  | .setClass payload => Sys2Proof.Machine.execSetClass payload s
  | .restart payload => Sys2Proof.Machine.execRestart payload s
  | .unknownRequest type payload => Sys2Proof.Machine.execUnknownRequest type payload s
  | .restartTakesEffect => Sys2Proof.Machine.execRestartTakesEffect s
  | .transmitterFrameSent => Sys2Proof.Machine.execTransmitterFrameSent s
  | .beaconTimerExpiry => Sys2Proof.Machine.execBeaconTimerExpiry s
  | .txDone body => Sys2Proof.Machine.execTxDone body s
  | .beaconTxTimeout => Sys2Proof.Machine.execBeaconTxTimeout s
  | .rxFrame body => Sys2Proof.Machine.execRxFrame body s
  | .modemFrameOtherKind bytes => Sys2Proof.Machine.execModemFrameOtherKind bytes s
  | .transponderRead bytes => Sys2Proof.Machine.execTransponderRead bytes s
  | .externalStopEdge asserted => Sys2Proof.Machine.execExternalStopEdge asserted s
  | .listenTimerExpiry => Sys2Proof.Machine.execListenTimerExpiry s
  | .authorityPeriodExpiry => Sys2Proof.Machine.execAuthorityPeriodExpiry s
  | .supervisionExpiry => Sys2Proof.Machine.execSupervisionExpiry s
  | .yieldWindowExpiry routeIndex => Sys2Proof.Machine.execYieldWindowExpiry routeIndex s
  | .entryHoldExpiry routeIndex => Sys2Proof.Machine.execEntryHoldExpiry routeIndex s
  | .backoffExpiry => Sys2Proof.Machine.execBackoffExpiry s
  | .tableOverflowHoldExpiry => Sys2Proof.Machine.execTableOverflowHoldExpiry s
  | .peerStale slot => Sys2Proof.Machine.execPeerStale slot s
  | .peerExpire slot => Sys2Proof.Machine.execPeerExpire slot s
  | .resetPinAsserted => Sys2Proof.Machine.execResetPinAsserted s
  | .powerLoss => Sys2Proof.Machine.execPowerLoss s

end Sys2Proof.Machine
end

