-- ==== Sys2Proof/Safety.lean ====
section
/-!
DEFINITION. What a good state of the part is: the invariants the manual states of its items, block by
block, as decidable properties; and the terms in which statements about commands are written.
-/

namespace Sys2Proof.Machine

/-! ### Invariants -/

/-- The stop line is released exactly when the station mode is SERVING (R139); while the part is held
in reset it is asserted (R170). -/
abbrev State.stopLineOk (s : State) : Prop :=
  s.ctl.line = .released ↔ s.ctl.mode = .serving ∧ s.held = false

/-- The load runs in INIT (R140). -/
abbrev State.loadOk (s : State) : Prop := s.config.loading = true → s.ctl.mode = .init

/-- The stop-cause set is empty in SERVING and PARKED, the first cause is absent exactly while the set
is empty, and a satisfaction mark is set only for a cause in the set (R143, R145). -/
abbrev State.causesOk (s : State) : Prop :=
  (s.ctl.mode = .serving ∨ s.ctl.mode = .parked → s.ctl.causes.isEmpty = true)
    ∧ (s.ctl.first = none ↔ s.ctl.causes.isEmpty = true)
    ∧ (s.ctl.markPositionLost = true → s.ctl.causes.positionLost = true)
    ∧ (s.ctl.markOffRoute = true → s.ctl.causes.offRoute = true)
    ∧ (s.ctl.markAirFault = true → s.ctl.causes.airFault = true)

/-- Is an item of the outgoing order an AUTHORITY message? -/
def OutItem.isAuthority : OutItem → Bool
  | .authority _ => true
  | _ => false

/-- Is the content of an item complete (R164)? -/
def OutItem.isComplete : OutItem → Bool
  | .notice (.stopped _ none) => false
  | _ => true

/-- Does no unsent AUTHORITY message stand next to another (R159)? -/
def noTwoAuthority : List OutItem → Bool
  | x :: y :: rest => !(x.isAuthority && y.isAuthority) && noTwoAuthority (y :: rest)
  | _ => true

/-- What the transmitter sends, in order: the frame it has begun, then the outgoing order. -/
def DriveLink.order (l : DriveLink) : List OutItem := l.transmitting.toList ++ l.outgoing

/-- Does the receiver hold nothing, or a frame from its sync byte on (R180)? -/
def heldFromSync : List Byte → Bool
  | [] => true
  | b :: _ => b == 0xA5#8

/-- The Drive Link Unit's lists keep within their sizes and shapes (R154, R159, R164), and a frame cut
by a change of rate is one that the receiver holds (R175). -/
abbrev State.linkOk (s : State) : Prop :=
  s.link.intake.length ≤ 4
    ∧ s.link.notices.length ≤ 8
    ∧ (s.link.order.filter (·.isResponse)).length ≤ 1
    ∧ noTwoAuthority s.link.outgoing = true
    ∧ s.link.outgoing.all (·.isComplete) = true
    ∧ s.link.outstanding.length ≤ 2
    ∧ (s.ctl.mode ≠ .serving → s.link.outstanding = [] ∧ s.link.pendingIssue = false)
    ∧ heldFromSync s.link.rx = true
    ∧ (s.link.rxCut = true → s.link.rx ≠ [])

/-- The items that count or saturate keep within their ranges (R20, R39, R40, R123, R162). -/
abbrev State.boundsOk (s : State) : Prop :=
  s.claims.urgency ≤ 3 ∧ s.claims.deferral ≤ 7 ∧ (∀ c ∈ s.claims.list, c.announce ≤ 2)
    ∧ s.pos.speed ≤ 1200 ∧ s.pos.sinceFix ≤ 65535 ∧ s.pos.offRoute ≤ 2
    ∧ s.beacon.parkedCount ≤ 2 ∧ s.beacon.failures ≤ 255
    ∧ ∀ n ∈ s.link.counters.toList, n ≤ 65535

/-- The value of a parameter. -/
def Params.get (p : Params) : ParamId → Nat
  | .vehicleLength => p.vehicleLength
  | .decel => p.decel
  | .reactionMs => p.reactionMs
  | .margin => p.margin
  | .maxSpeed => p.maxSpeed
  | .beaconPeriod => p.beaconPeriod
  | .beaconJitter => p.beaconJitter
  | .yieldWindow => p.yieldWindow
  | .peerStale => p.peerStale
  | .peerExpire => p.peerExpire
  | .listenMs => p.listenMs
  | .authPeriod => p.authPeriod
  | .superviseMs => p.superviseMs
  | .fixGapMax => p.fixGapMax
  | .fixTol => p.fixTol
  | .startUnc => p.startUnc
  | .airFailLimit => p.airFailLimit
  | .linkRate => p.linkRate

/-- The parameters, in the order of the table of R173. -/
def ParamId.all : List ParamId :=
  [.vehicleLength, .decel, .reactionMs, .margin, .maxSpeed, .beaconPeriod, .beaconJitter,
    .yieldWindow, .peerStale, .peerExpire, .listenMs, .authPeriod, .superviseMs, .fixGapMax,
    .fixTol, .startUnc, .airFailLimit, .linkRate]

/-- Every parameter is in its range (R173) and the floors of R174 hold. -/
abbrev Params.ok (p : Params) : Prop :=
  (∀ i ∈ ParamId.all, i.range.1 ≤ p.get i ∧ p.get i ≤ i.range.2)
    ∧ 2 * p.beaconPeriod + p.beaconJitter + 50 ≤ p.yieldWindow
    ∧ 3 * p.beaconPeriod + p.beaconJitter + 50 ≤ p.peerStale
    ∧ p.peerStale ≤ p.listenMs

/-- The parameters are good, the class table has its 16 entries in range (R2), and H is the horizon of
the parameters (R43, R170). -/
abbrev ConfigLoader.ok (c : ConfigLoader) : Prop :=
  c.params.ok ∧ c.classes.length = 16
    ∧ (∀ e ∈ c.classes, 50 ≤ e.speedCap ∧ e.speedCap ≤ 1000 ∧ e.entryHold ≤ 2000)
    ∧ c.horizon = c.params.horizon

/-- A peer entry holds only values R65 and R66 allow. -/
abbrev PeerEntry.ok (e : PeerEntry) : Prop :=
  1 ≤ e.id.toNat ∧ e.id.toNat ≤ 250 ∧ e.mode ≠ .init ∧ e.urgency ≤ 3 ∧ e.deferral ≤ 7
    ∧ e.posOffset ≤ 65535 ∧ e.speed ≤ 1200 ∧ e.claims.length ≤ 12
    ∧ (e.claims.map (·.cell)).Nodup ∧ (∀ p ∈ e.claims, p.cell ≠ noCell)
    ∧ ∀ p ∈ e.claims, p.crane.all (fun q => decide (1 ≤ q ∧ q ≤ 65535)) = true

/-- The peer table has 24 slots, each entry is good, none has the own station id and no two have the
same (R64). -/
abbrev State.peersOk (s : State) : Prop :=
  s.peers.slots.length = 24
    ∧ (∀ e ∈ s.peers.entries, e.ok ∧ e.id ≠ s.config.straps.stationId)
    ∧ (s.peers.entries.map (·.id)).Nodup

/-- The jitter generator is never 0 (R123, R125) where the station id is not 0. -/
abbrev State.jitterOk (s : State) : Prop :=
  s.config.straps.stationId ≠ 0#8 → s.beacon.jitter ≠ 0#16

/-- The air port shows the TX_FRAME of the last beacon built, whose sequence is the one before the next,
and a beacon in flight is that one (R123, R129; notes/assumptions/28.md). -/
abbrev State.airOk (s : State) : Prop :=
  s.beacon.handed = s.beacon.lastPayload.map (txFrame (s.beacon.seq - 1))
    ∧ s.beacon.inFlight.all
      (fun b => b.seq == s.beacon.seq - 1 && s.beacon.lastPayload.isSome) = true

/-- The authority record: nothing is authorised outside SERVING (R107), the ceiling is a multiple of
5 up to MAX_SPEED, and its stopping distance does not exceed the length (R113). -/
abbrev State.authOk (s : State) : Prop :=
  (s.ctl.mode ≠ .serving → s.auth.length = 0 ∧ s.auth.ceiling = 0)
    ∧ s.auth.ceiling % 5 = 0 ∧ s.auth.ceiling ≤ s.config.params.maxSpeed
    ∧ s.config.params.stopping s.auth.ceiling ≤ s.auth.length

/-- The Route Store keeps to R4 and R6: its sizes, its entries' lengths and stop offsets, and EMPTY
exactly when there is no live entry. -/
abbrev RouteStore.ok (r : RouteStore) : Prop :=
  r.entries.length ≤ 64 ∧ r.entries.length ≤ r.nextIndex ∧ r.nextIndex ≤ 65536
    ∧ (r.state = .empty ↔ r.entries = []) ∧ (r.entries = [] → r.nextIndex = 0)
    ∧ (∀ e ∈ r.entries, e.cell ≠ noCell ∧ 300 ≤ e.length ∧ e.length ≤ 3000
      ∧ e.stop.all (· < e.length) = true)
    ∧ (r.entries.map (·.cell)).Nodup

/-- The own claim list keeps to R38: at most 12 claims, on the first live entries in route order, read
from rear to front OCCUPIED, then HELD, then TENTATIVE; none is TENTATIVE outside SERVING (R59,
R61). -/
abbrev State.claimsOk (s : State) : Prop :=
  s.claims.list.length ≤ 12 ∧ s.claims.list.length ≤ s.route.entries.length
    ∧ s.claims.list.map (·.index) = List.range' s.route.first s.claims.list.length
    ∧ s.claims.list.map (·.cell) = (s.route.entries.take s.claims.list.length).map (·.cell)
    ∧ s.claims.list.Pairwise (fun a b => b.state.code ≤ a.state.code)
    ∧ (s.ctl.mode ≠ .serving → ∀ c ∈ s.claims.list, c.state ≠ .tentative)

/-- Does a position name a live entry, with an offset within its length unless it is the last (R20)? -/
def RouteStore.holds (r : RouteStore) (p : RoutePos) : Bool :=
  match r.entry? p.index with
  | none => false
  | some e => decide (p.offset < e.length) || decide (p.index + 1 = r.nextIndex)

/-- The Position Unit keeps to R20: before start there is no position and no claim, and after it the
position names a live entry. -/
abbrev State.posOk (s : State) : Prop :=
  s.pos.base ≤ 300
    ∧ (if s.pos.start = true then s.pos.pos.any s.route.holds = true
      else s.pos.pos = none ∧ s.claims.list = [])

/-- Route, claims and position agree, over a good configuration. -/
abbrev State.structureOk (s : State) : Prop :=
  s.config.ok ∧ s.route.ok ∧ s.claimsOk ∧ s.posOk

/-- Every invariant of the part. -/
abbrev State.ok (s : State) : Prop :=
  s.stopLineOk ∧ s.loadOk ∧ s.causesOk ∧ s.linkOk ∧ s.boundsOk ∧ s.peersOk ∧ s.jitterOk ∧ s.airOk
    ∧ s.authOk ∧ s.structureOk

/-! ### Terms of the statements about commands -/

/-- Every notice that waits is complete (R164). -/
abbrev State.noticesComplete (s : State) : Prop := s.link.outgoing.all (·.isComplete) = true

/-- A request can be taken (R156): it is the oldest in the intake and no response waits unsent; the
part is not held in reset. The notices that wait are complete (R164). -/
abbrev State.readyFor (s : State) (f : Frame) : Prop :=
  s.held = false ∧ s.link.responseWaiting = false ∧ s.link.intake.head? = some f ∧ s.noticesComplete

/-- The number of payload bytes of a request type (R180). -/
def requestLength (type : Byte) : Nat :=
  match type.toNat with
  | 0x03 => 1 | 0x07 => 160 | 0x0A => 3 | 0x0B => 1 | 0x0F => 1 | 0x11 => 5 | 0x12 => 6
  | _ => 0

/-- The Drive Link Unit once the oldest request is taken and its response has joined the outgoing order
(R156 to R158). -/
def DriveLink.replied (l : DriveLink) (type : Byte) (code : ResultCode) (result : List Byte) :
    DriveLink :=
  { l with
    intake := l.intake.tail
    outgoing := l.outgoing ++ [.response type code result]
    lastResult := some (type, code) }

/-- A state whose oldest request is taken and answered, the transmitter then taking the oldest item
when it is free (R156 to R159). -/
def State.replied (s : State) (type : Byte) (code : ResultCode) (result : List Byte) : State :=
  ({ s with link := s.link.replied type code result } : State).transmit

/-- An AUTHORITY message joins the outgoing order, after the withdrawal of an unsent one that stands
last (R165). -/
def DriveLink.issued (l : DriveLink) (m : AuthorityMessage) : DriveLink :=
  { l.withdraw with outgoing := l.withdraw.outgoing ++ [.authority m], authSeq := l.authSeq + 1 }

/-- The authority record outside SERVING (R107): the point is the front bound, when there is one. -/
def State.restingAuthority (s : State) : AuthorityUnit :=
  ⟨0, s.front?.map s.route.locate, 0, s.auth.overrun⟩

/-- The AUTHORITY message of a mode outside SERVING (R107, R165). -/
def State.restingMessage (s : State) (m : Mode) (first : Option Cause) : AuthorityMessage where
  seq := s.link.authSeq
  mode := m
  route := s.route.state
  length := 0
  point := s.front?.map s.route.locate
  ceiling := 0
  overrun := s.auth.overrun
  stop := s.route.firstStop
  first := first

/-- The inputs, the time base and the model's own fields, which no handling of a command changes but
where it says so. -/
abbrev State.sameOutside (s t : State) : Prop :=
  t.readerRx = s.readerRx ∧ t.extPin = s.extPin ∧ t.resetPin = s.resetPin
    ∧ t.supplyLost = s.supplyLost ∧ t.now = s.now ∧ t.pending = s.pending
    ∧ t.freeCount = s.freeCount

/-- The receiver of the drive link is between two frames. -/
abbrev State.linkIdle (s : State) : Prop := s.link.rx = [] ∧ s.link.rxCut = false

/-- The station stands in STOPPED, its line asserted, with a cause in the set. -/
abbrev State.stoppedBy (s : State) (c : Cause) : Prop :=
  s.ctl.mode = .stopped ∧ s.ctl.line = .asserted ∧ s.ctl.causes.has c = true

/-- The own claims that are not TENTATIVE. -/
def State.reserved (s : State) : List Claim := s.claims.list.filter fun c => c.state != .tentative

/-- The front bound lies in the cell of an own claim, or exactly at the start of a live entry, claimed
or not (R108; strictly inside the cell of a claim not OCCUPIED: notes/assumptions/34.md). -/
abbrev State.frontStands (s : State) : Prop :=
  (s.front?.bind fun x => (s.route.cellAt x).map fun y => (s.claimAt y.1).isSome || y.2.2 == x)
    = some true

/-- `t` holds what the recomputation makes of `p`, the state after every change of the event (R103,
R107, R115, R117, R118): outside SERVING no authority; in SERVING the record computed afresh where a
carrier at the reported speed can stop within it, and the stop by OVERRUN where it cannot or where the
front bound lies in no own claim. -/
abbrev State.recomputedInto (p t : State) : Prop :=
  let fits := p.computeAuthority.2 = false
    ∧ p.config.params.stopping p.pos.speed ≤ p.computeAuthority.1.length
  (p.ctl.mode ≠ .serving → t.ctl = p.ctl ∧ t.auth = p.restingAuthority ∧ t.claims = p.claims)
    ∧ (p.ctl.mode = .serving → fits →
      t.ctl = p.ctl ∧ t.auth = p.computeAuthority.1 ∧ t.claims = p.claims)
    ∧ (p.ctl.mode = .serving → ¬ fits →
      t.stoppedBy .overrun ∧ t.auth = { p.restingAuthority with overrun := true }
        ∧ t.claims = { p.claims with list := p.reserved }
        ∧ t.link.outstanding = [] ∧ t.link.pendingIssue = false)

/-- `t` holds what the event makes of `p`, the state once its claim changes are complete (R63): where the
claims differ from those of `s` before the event, a recomputation; where they do not, none. -/
abbrev State.claimsSettledInto (s p t : State) : Prop :=
  (p.claimView ≠ s.claimView → p.recomputedInto t)
    ∧ (p.claimView = s.claimView → t.ctl = p.ctl ∧ t.auth = s.auth ∧ t.claims = p.claims)

/-- `t` holds what a position change that has been handed on leads to (R25, R116, R118): the entries
retired, the recomputation, and OVERRUN for an overrun entry. -/
abbrev Work.settledInto (moved : Work) (t : State) : Prop :=
  t.route = moved.s.route ∧ t.reserved = moved.s.reserved
    ∧ (moved.overrunEntry = false → moved.s.recomputedInto t)
    ∧ (moved.overrunEntry = true → t.ctl.causes.has .overrun = true ∧ t.ctl.mode = .stopped
      ∧ t.auth = { moved.s.restingAuthority with overrun := true })

/-- The state as it enters SERVING (R152), before the recomputation. -/
def State.servingFrom (s : State) (m : ModeController) : State :=
  ({ s with
    ctl := { m with mode := .serving, line := .released }
    auth := { s.auth with overrun := false } } : State).claimAhead

/-- From `s` to `t` a notice was queued, or lost with NOTICE_OVERFLOW latched while 8 waited
(R164). -/
abbrev State.noticed (s t : State) (n : Notice) : Prop :=
  (s.link.notices.length < 8 → OutItem.notice n ∈ t.link.order)
    ∧ (8 ≤ s.link.notices.length → t.link.latched.noticeOverflow = true)

end Sys2Proof.Machine
end

