-- ==== Sys2Proof/Certificates/Slice0/Obligations.lean ====
section
/-!
DEFINITION. The statements about the model, for the provers: the machine as a whole, the invariants
every step keeps, the formulas and orders of the manual, the links, and each command's effect.
-/

section
open Sys2Proof Sys2Proof.Machine

/-! ### The machine -/

/-- A step runs the command at the front of the queue, with the queue's rest. -/
def Obligations.StepRunsFrontCommand : Prop :=
  ∀ (c : Instr) (rest : List Instr) (s : State), s.pending = c :: rest →
    step s = exec c { s with pending := rest }

/-- On an empty queue the part puts one of its own due steps in the queue, or lets 1 ms pass. The
model's choice: notes/assumptions/1.md and 2.md. -/
def Obligations.EmptyQueueMovesOn : Prop :=
  ∀ s : State, s.pending = [] →
    (s.due = [] → step s = .next { s with now := s.now + 1 })
    ∧ (∀ c, s.due = [c] → step s = .next { s with pending := [c] })
    ∧ (2 ≤ s.due.length → ∃ c ∈ s.due,
        step s = .next { s with pending := [c], freeCount := s.freeCount + 1 })

/-- Every command answers a next state, and none touches the queue, the model's counter or the time base.
That the resets leave the time base as it is, is the model's choice (notes/assumptions/4.md); the queue
and the counter are the model's own (1.md, 2.md). -/
def Obligations.EveryCommandAnswersNext : Prop :=
  ∀ (c : Instr) (s : State), ∃ t, exec c s = .next t
    ∧ t.pending = s.pending ∧ t.freeCount = s.freeCount ∧ t.now = s.now

/-- While the part is held in reset no command but the reset and supply events and the edge of the
external-stop pin changes anything (R170; the model's reading of it: notes/assumptions/10.md). -/
def Obligations.HeldPartTakesNothing : Prop :=
  ∀ (c : Instr) (s : State), s.held = true →
    (match c with
      | .powerOnReset _ => False
      | .pinReset _ => False
      | .resetPinAsserted => False
      | .powerLoss => False
      | .externalStopEdge _ => False
      | _ => True) →
    exec c s = .next s

/-! ### Invariants -/

/-- The state right after reset meets every invariant. -/
def Obligations.ResetStateMeetsInvariants : Prop := State.reset.ok

/-- Every step keeps the stop line released exactly in SERVING, and asserted in reset (R139, R170). -/
def Obligations.StopLineFollowsMode : Prop :=
  ∀ s t : State, s.stopLineOk → step s = .next t → t.stopLineOk

/-- Every step keeps the stop-cause set empty in SERVING and PARKED, the first cause present exactly
with a cause, and marks only on causes of the set (R143, R145). -/
def Obligations.StopCausesKept : Prop :=
  ∀ s t : State, s.causesOk → step s = .next t → t.causesOk

/-- Every step keeps the sizes and shapes of the Drive Link Unit's lists (R154, R159, R164). -/
def Obligations.DriveLinkListsKept : Prop :=
  ∀ s t : State, s.loadOk → s.linkOk → step s = .next t → t.loadOk ∧ t.linkOk

/-- Every step keeps urgency, deferral, announce counts, speed, distance since fix, off-route count,
parked count, failures and the fourteen counters in their ranges (R20, R39, R40, R123, R162), the
jitter generator off 0 where the station id is not 0 (R123, R125), and on the air port the TX_FRAME of
the last beacon built (R129; the model's way to show it: notes/assumptions/28.md). -/
def Obligations.CountsStayInRange : Prop :=
  ∀ s t : State, step s = .next t →
    (s.boundsOk → t.boundsOk) ∧ (s.jitterOk → t.jitterOk) ∧ (s.airOk → t.airOk)

/-- Every step keeps each parameter in its range and above its floor, the class table in range, and H
the horizon of the parameters (R2, R43, R173, R174). -/
def Obligations.ConfigurationKept : Prop :=
  ∀ s t : State, s.config.ok → step s = .next t → t.config.ok

/-- Every step keeps the peer table at 24 slots of good entries, no two of one station and none of the
own (R64 to R66). -/
def Obligations.PeerTableKept : Prop :=
  ∀ s t : State, s.peersOk → step s = .next t → t.peersOk

/-- Every step keeps the authority record: length and ceiling 0 outside SERVING, a ceiling that is a
multiple of 5 up to MAX_SPEED, and whose stopping distance the length covers (R103, R107, R113). -/
def Obligations.AuthorityRecordKept : Prop :=
  ∀ s t : State, s.loadOk → s.authOk → step s = .next t → t.loadOk ∧ t.authOk

/-- Every step keeps the route ring (R6), the own claim list (R38) and the position (R20) in agreement:
claims in order on the first live entries, the position on a live entry. -/
def Obligations.RouteClaimsPositionAgree : Prop :=
  ∀ s t : State, s.loadOk → s.structureOk → step s = .next t → t.loadOk ∧ t.structureOk

/-! ### Safety of the authority -/

/-- The authority computed never covers any part of a cell that a peer entry lists as HELD or OCCUPIED,
unless an own OCCUPIED claim stands on it (R109): it ends at or before the cell's start, and is 0 with the
front bound inside the cell. -/
def Obligations.AuthorityStopsShortOfBlockedCells : Prop :=
  ∀ (s : State) (front i : Nat) (e : RouteEntry), s.structureOk → s.front? = some front →
    s.route.entry? i = some e → s.peers.blocked e.cell = true →
    (∀ c ∈ s.claims.list, c.index = i → c.state ≠ .occupied) →
    (front ≤ s.route.startOf i → front + s.computeAuthority.1.length ≤ s.route.startOf i)
    ∧ (s.route.startOf i < front → front < s.route.endOf i → s.computeAuthority.1.length = 0)

/-- The authority record computed (R107 to R114). Outside SERVING it is 0. In SERVING the usable run goes
from the front bound's claim (wherever in its cell the bound lies: notes/assumptions/34.md) over usable
claims; the first unreleased stop point within it bounds it without margin, and otherwise MARGIN is kept from its end; a keep-clear window over the point so found
pulls the length back to the start of the first cell of its chain (notes/assumptions/21.md); the point lies
that length beyond the front bound; the ceiling is the largest multiple of 5 up to MAX_SPEED that meets the
three conditions of R113. -/
def Obligations.CeilingIsLargest : Prop :=
  (∀ (s : State) (front cap l n : Nat),
    s.ceilingSearch front cap l n ≤ 5 * n ∧ s.ceilingSearch front cap l n % 5 = 0
    ∧ (s.ceilingSearch front cap l n = 0
        ∨ s.ceilingOk front cap l (s.ceilingSearch front cap l n) = true)
    ∧ ∀ k ≤ n, s.ceilingSearch front cap l n < 5 * k → s.ceilingOk front cap l (5 * k) = false)
  ∧ (∀ (s : State) (front cap l v : Nat), s.ceilingOk front cap l v = true ↔
      v ≤ cap ∧ s.config.params.stopping v ≤ l
      ∧ ∀ k e, s.route.entry? k = some e → front < s.route.startOf k → s.route.startOf k < front + l →
        v ≤ s.effectiveCap e
          ∨ s.config.params.braking v (s.effectiveCap e) ≤ s.route.startOf k - front)
  ∧ (∀ (s : State) (c : Claim), s.usable c = true ↔ c.state = .occupied
      ∨ (c.state = .held ∧ (∃ t, c.heldSince = some t ∧ t + (s.classOf c.cell).entryHold ≤ s.now)
        ∧ s.peers.blocked c.cell = false))
  ∧ (∀ (r : RouteStore) (x : Nat), r.ok → r.entries ≠ [] → ∃ e,
      r.entry? (r.locate x).index = some e ∧ r.distance (r.locate x) = x
      ∧ ((r.locate x).offset < e.length ∨ (r.locate x).index + 1 = r.nextIndex))
  ∧ (∀ s : State, s.ctl.mode ≠ .serving → s.computeAuthority = (s.restingAuthority, false))
  ∧ ∀ (s : State) (front : Nat), s.structureOk → s.ctl.mode = .serving → s.front? = some front →
    let outside : AuthorityUnit × Bool :=
      (⟨0, some (s.route.locate front), 0, s.auth.overrun⟩, true)
    (s.route.cellAt front = none → s.computeAuthority = outside)
    ∧ ∀ i e own, s.route.cellAt front = some (i, e, own) →
      ((∀ c ∈ s.claims.list, c.index ≠ i) → own < front → s.computeAuthority = outside)
      ∧ ((∃ c ∈ s.claims.list, c.index = i) ∨ own = front →
        let run := (s.claims.list.dropWhile fun c => c.index != i).takeWhile fun c => s.usable c
        let toStop (p : RoutePos) : Nat := ((s.route.distance p : Int) - front).toNat
        let toEnd (c : Claim) : Nat :=
          ((s.route.endOf c.index : Int) - front - s.config.params.margin).toNat
        let l0 := match run.getLast?, s.route.firstStop with
          | none, _ => 0
          | some c, none => toEnd c
          | some c, some p => if p.index ≤ c.index then toStop p else toEnd c
        let keepClear (k : Nat) : Prop := ∃ x, s.route.entry? k = some x ∧ own < s.route.startOf k
          ∧ s.route.startOf k < front + l0 ∧ (s.classOf x.cell).keepClear = true
        let reach (k : Nat) : Nat := s.route.endOf k + s.config.params.vehicleLength + 2 * s.pos.u
        ∃ l, s.computeAuthority = (⟨l, some (s.route.locate (front + l)),
            s.ceilingSearch front (s.effectiveCap e) l (s.config.params.maxSpeed / 5),
            s.auth.overrun⟩, false)
          ∧ ((∀ k, keepClear k → reach k ≤ front + l0) → l = l0)
          ∧ ((∃ k, keepClear k ∧ front + l0 < reach k) → ∃ k, keepClear k
            ∧ front + l = s.route.startOf k
            ∧ (∀ x, s.route.startOf k < x → x ≤ front + l0 →
              ∃ j, keepClear j ∧ s.route.startOf j < x ∧ x < reach j)
            ∧ ∀ j, keepClear j → s.route.startOf j < s.route.startOf k →
              reach j ≤ s.route.startOf k))

/-! ### Formulas and orders -/

/-- The uncertainty (R22): its formula and range, its growth with reported distance, 0 after a fix,
START_UNC after SET_START; without a position there is no bound and no commit point. -/
def Obligations.UncertaintyRule : Prop :=
  (∀ p : PositionUnit, p.u = min 300 (p.base + (p.sinceFix + 49) / 50) ∧ p.u ≤ 300
    ∧ ∀ d, p.u ≤ ({ p with sinceFix := p.sinceFix + d } : PositionUnit).u)
  ∧ (∀ (w : Work) (cell : CellId) (p : RoutePos) (j : Nat),
      (w.fix cell p j).s.pos.base = 0 ∧ (w.fix cell p j).s.pos.sinceFix = 0
        ∧ (w.fix cell p j).s.pos.u = 0)
  ∧ (∀ (w : Work) (i o : Nat), w.s.config.params.startUnc ≤ 300 →
      (w.start i o).s.pos.u = w.s.config.params.startUnc)
  ∧ (∀ s : State, s.posOk → s.pos.start = false → s.pos.pos = none)
  ∧ ∀ s : State, s.pos.pos = none → s.front? = none ∧ s.rear? = none ∧ s.commit? = none

/-- The stopping distance (R104): the least whole number of cm not below its formula; 0 at rest; not
falling as the speed rises; its numerator, denominator and largest value over the permitted ranges;
and no speed above 1200 is ever its argument. -/
def Obligations.StoppingDistanceRule : Prop :=
  (∀ p : Params, 50 ≤ p.decel → p.decel ≤ 300 → p.reactionMs ≤ 1000 →
    p.stopping 0 = 0
    ∧ 100000 ≤ 2000 * p.decel ∧ 2000 * p.decel ≤ 600000
    ∧ ∀ v ≤ 1200,
      (∀ n, p.stopping v ≤ n
        ↔ 2 * p.decel * v * p.reactionMs + 1000 * (v * v) ≤ n * (2000 * p.decel))
      ∧ (∀ v' ≤ v, p.stopping v' ≤ p.stopping v)
      ∧ 2 * p.decel * v * p.reactionMs + 1000 * (v * v) ≤ 2160000000
      ∧ p.stopping v ≤ 15600)
  ∧ (∀ p : Params, p.decel = 50 → p.reactionMs = 1000 → p.stopping 1200 = 15600)
  ∧ (∀ (s : State) (v : Nat), (s.takeSpeed v).pos.speed = min 1200 v)
  ∧ ∀ (s : State) (front cap l : Nat),
      s.ceilingSearch front cap l (s.config.params.maxSpeed / 5) ≤ s.config.params.maxSpeed

/-- The braking distance (R105): the least whole number of cm not below its formula; that of s at
c = 0; never above s; not falling as v rises; its numerator within that of s; used only with a cell's
effective cap, at least 50, and only by a candidate above it. -/
def Obligations.BrakingDistanceRule : Prop :=
  (∀ (p : Params) (v c : Nat), 50 ≤ p.decel → p.decel ≤ 300 → p.reactionMs ≤ 1000 → c < v →
    v ≤ 1200 →
    (∀ n, p.braking v c ≤ n
      ↔ 2 * p.decel * v * p.reactionMs + 1000 * (v * v - c * c) ≤ n * (2000 * p.decel))
    ∧ p.braking v 0 = p.stopping v ∧ p.braking v c ≤ p.stopping v
    ∧ (∀ v', c < v' → v' ≤ v → p.braking v' c ≤ p.braking v c)
    ∧ 2 * p.decel * v * p.reactionMs + 1000 * (v * v - c * c)
      ≤ 2 * p.decel * v * p.reactionMs + 1000 * (v * v))
  ∧ (∀ (s : State) (e : RouteEntry), s.config.ok → (∀ o, e.cap = some o → 50 ≤ o) →
      50 ≤ s.effectiveCap e)
  ∧ ∀ (s : State) (front p v : Nat) (e : RouteEntry) (es : List RouteEntry) (start : Nat),
      s.meetsTargets front p v (e :: es) start = true ↔
        (front < start → start < p → s.effectiveCap e < v →
          s.config.params.braking v (s.effectiveCap e) ≤ start - front)
        ∧ s.meetsTargets front p v es (start + e.length) = true

/-- Rank (R83): the first of the six tests that separates two claims decides, test 2 on crane spots
alone with an absent crane sequence counting as 65536; of two claims of different stations exactly one
outranks the other. -/
def Obligations.RankRule : Prop :=
  ∀ (crane : Bool) (a b : Ranked),
    let q (x : Ranked) : Nat := match x.crane with | none => 65536 | some k => k
    let same1 := (a.state = .occupied ↔ b.state = .occupied)
    let same2 := crane = false ∨ q a = q b
    let same3 := (a.state = .held ↔ b.state = .held)
    (¬ same1 → (outranks crane a b = true ↔ a.state = .occupied))
    ∧ (same1 → ¬ same2 → (outranks crane a b = true ↔ q a < q b))
    ∧ (same1 → same2 → ¬ same3 → (outranks crane a b = true ↔ a.state = .held))
    ∧ (same1 → same2 → same3 → a.urgency ≠ b.urgency →
        (outranks crane a b = true ↔ b.urgency < a.urgency))
    ∧ (same1 → same2 → same3 → a.urgency = b.urgency → a.deferral ≠ b.deferral →
        (outranks crane a b = true ↔ b.deferral < a.deferral))
    ∧ (same1 → same2 → same3 → a.urgency = b.urgency → a.deferral = b.deferral →
        (outranks crane a b = true ↔ a.id.toNat < b.id.toNat))
    ∧ (a.id ≠ b.id → (outranks crane a b = true ↔ ¬ outranks crane b a = true))

/-- Blocked cells and rivals (R67): a cell is blocked when an entry, FRESH or STALE, lists it HELD or
OCCUPIED; a claim's rivals are the peer claims on its cell with their entries' headers; the age states
take no part. -/
def Obligations.BlockedAndRivals : Prop :=
  (∀ (t : PeerTable) (cell : CellId), t.blocked cell = true ↔
    ∃ (k : Nat) (e : PeerEntry) (p : PeerClaim), t.slots[k]? = some (some e) ∧ p ∈ e.claims ∧ p.cell = cell
      ∧ (p.state = .held ∨ p.state = .occupied))
  ∧ (∀ (s : State) (d : Nat) (c : Claim), s.outranked d c = true ↔
      ∃ (k : Nat) (e : PeerEntry) (p : PeerClaim), s.peers.slots[k]? = some (some e) ∧ p ∈ e.claims ∧ p.cell = c.cell
        ∧ outranks (s.classOf c.cell).craneSpot ⟨p.state, p.crane, e.urgency, e.deferral, e.id⟩
          ⟨c.state, c.crane, s.claims.urgency, d, s.config.straps.stationId⟩ = true)
  ∧ ∀ (s : State) (ages : PeerEntry → AgeState) (d : Nat) (c : Claim),
      let s' := s.setPeers { s.peers with
        slots := s.peers.slots.map fun o => o.map fun e => { e with age := ages e } }
      s'.peers.blocked c.cell = s.peers.blocked c.cell ∧ s'.outranked d c = s.outranked d c

/-- The outcome of a contest between own claim c and peer claim p (R86 to R91), and what the
start-conflict test makes of a start claim (R98). A yield (R56): the named claim and every claim after it
are dropped, the deferral count rises to at most 7, the backoff timer runs for deferral × BEACON_PERIOD
ms, YIELDS is counted; a claim that has left the list gives none. Stage 1 at an accepted beacon carries
all out in the order of R92: each late contest latched, counted and noticed from rear to front (R89); the
mutual block (R94, R95); the one yield of the rearmost claim marked; COLLISION_RISK and START_CONFLICT
raised, in this order (notes/assumptions/16.md), with what R142 and R143 make of them. -/
def Obligations.ContestOutcomesAndYield : Prop :=
  (∀ (s : State) (commit : Option Nat) (e : PeerEntry) (c : Claim) (p : PeerClaim),
    let beaten := s.outrankedBy s.claims.deferral c e p
    let ahead := s.beyondCommit commit c
    let conflict := s.startTest && c.isStart
    (c.state = .occupied → p.state = .occupied →
      s.verdict commit e c p = if conflict then .startConflict else .collision)
    ∧ (c.state = .occupied → p.state = .held →
        s.verdict commit e c p = if conflict then .startConflict else .none)
    ∧ (c.state = .occupied → p.state = .tentative → s.verdict commit e c p = .none)
    ∧ (c.state = .held → p.state ≠ .tentative →
        s.verdict commit e c p = .late (beaten && ahead))
    ∧ (c.state = .held → p.state = .tentative →
        s.verdict commit e c p = if beaten && ahead then .yielded else .none)
    ∧ (c.state = .tentative →
        s.verdict commit e c p = if beaten then .yielded else .none))
  ∧ (∀ (s : State) (before after : List Claim) (c : Claim),
    (s.claims.list = before ++ c :: after → (∀ x ∈ before, x.identity ≠ c.identity) →
      s.yieldClaim c.identity =
        { s with
          claims := { s.claims with
            list := before
            deferral := min 7 (s.claims.deferral + 1)
            backoff := some
              (s.now + min 7 (s.claims.deferral + 1) * s.config.params.beaconPeriod) }
          link := { s.link with counters := { s.link.counters with
            yields := min 65535 (s.link.counters.yields + 1) } } })
    ∧ ((∀ x ∈ s.claims.list, x.identity ≠ c.identity) → s.yieldClaim c.identity = s))
  ∧ ∀ (w : Work) (e : PeerEntry),
    let s := w.s
    let ks : List Contest := s.claims.list.filterMap fun c =>
      (e.claims.find? fun p => p.cell == c.cell).map fun p => ⟨c, p, s.verdict s.commit? e c p⟩
    let late : List Notice := ks.filterMap fun k =>
      match k.verdict with
      | .late y => some (.lateContest e.id k.claim.cell k.rival.state y)
      | _ => none
    let block : Bool :=
      (ks.any fun k => k.claim.state != .tentative && k.rival.state == .tentative)
        && ks.any fun k => k.claim.state == .tentative && k.rival.state != .tentative
    let marked (k : Contest) : Bool := block && decide (e.id.toNat < s.config.straps.stationId.toNat)
      && k.claim.state == .held && k.rival.state == .tentative && s.beyondCommit s.commit? k.claim
    let yielded := ks.find? fun k =>
      k.verdict == .late true || k.verdict == .yielded || marked k
    let collision := ks.any fun k => k.verdict == .collision
    let conflict := ks.any fun k => k.verdict == .startConflict
    let was := s.ctl.causes
    let causes : CauseSet := { was with
      collisionRisk := was.collisionRisk || collision
      startConflict := was.startConflict || conflict }
    let notices : List Notice := late
      ++ (if block then [.mutualBlock e.id (ks.any marked)] else [])
      ++ (if collision && !was.collisionRisk then [.stopped .collisionRisk none] else [])
      ++ (if conflict && !was.startConflict then [.stopped .startConflict none] else [])
    let room := 8 - s.link.notices.length
    let stops : Bool := (collision || conflict) && decide (s.ctl.mode = .serving
      ∨ s.ctl.mode = .parked ∨ (s.ctl.mode = .listen ∧ s.pos.start = true
        ∧ (s.ctl.listenDone = true ∨ ∃ c ∈ Cause.all, c ≠ .startConflict ∧ causes.has c = true)))
    let d := min 7 (s.claims.deferral + 1)
    let kept : ClaimEngine := match yielded with
      | none => s.claims
      | some k => { s.claims with
          list := s.claims.list.takeWhile fun c => c.identity != k.claim.identity
          deferral := d
          backoff := some (s.now + d * s.config.params.beaconPeriod) }
    (w.contest e).s = { s with
      claims := if stops then
          { kept with list := kept.list.filter fun c => c.state != .tentative } else kept
      ctl := { s.ctl with
        mode := if stops then .stopped else s.ctl.mode
        line := if stops then .asserted else s.ctl.line
        causes := causes
        first := if was.isEmpty = false then s.ctl.first
          else if collision then some .collisionRisk
          else if conflict then some .startConflict else s.ctl.first }
      link := { s.link with
        outgoing := s.link.outgoing ++ (notices.take room).map .notice
        outstanding := if stops && decide (s.ctl.mode = .serving) then [] else s.link.outstanding
        pendingIssue := s.link.pendingIssue && !(stops && decide (s.ctl.mode = .serving))
        latched := { s.link.latched with
          lateContest := s.link.latched.lateContest || !late.isEmpty
          mutualBlock := s.link.latched.mutualBlock || block
          noticeOverflow := s.link.latched.noticeOverflow || decide (room < notices.length) }
        counters := { s.link.counters with
          lateContests := if late.isEmpty then s.link.counters.lateContests
            else min 65535 (s.link.counters.lateContests + late.length)
          yields := if yielded.isNone then s.link.counters.yields
            else min 65535 (s.link.counters.yields + 1) } } }
    ∧ (w.contest e).modeChanged = (w.modeChanged || stops)

/-- Claiming ahead (R44, R45): the next entry to claim is the one after the frontmost claim's, exactly when
the six conditions hold; an evaluation makes one TENTATIVE claim after another, each of announce count 0
with the entry's cell and crane sequence, until the conditions fail. -/
def Obligations.ClaimAheadConditions : Prop :=
  (∀ (s : State) (i : Nat) (e : RouteEntry), s.nextToClaim = some (i, e) ↔
    ∃ last front, s.claims.list.getLast? = some last ∧ s.front? = some front
      ∧ i = last.index + 1 ∧ s.route.entry? i = some e
      ∧ s.ctl.mode = .serving ∧ s.route.state = .active
      ∧ s.claims.backoff = none ∧ s.peers.hold = none
      ∧ s.claims.list.length < 12
      ∧ (s.claims.list.filter fun c => c.state == .tentative).length < 3
      ∧ (∀ p, s.route.firstStop = some p → i ≤ p.index)
      ∧ s.route.startOf i < front + s.config.horizon)
  ∧ ∀ s : State,
    (s.nextToClaim = none → s.claimAhead = s)
    ∧ (∀ i e, s.nextToClaim = some (i, e) →
      s.claimAhead = ({ s with claims := { s.claims with
        list := s.claims.list ++
          [⟨s.claims.nextIdentity, i, e.cell, .tentative, 0, none, none, e.crane, none, none⟩]
        nextIdentity := s.claims.nextIdentity + 1 } } : State).claimAhead)
    ∧ s.claimAhead.nextToClaim = none

/-- A promotion sweep (R48, R49) makes a claim HELD exactly when the five conditions hold, the claim
before it and the deferral count taken as the sweep has left them; it changes no other claim, and
returns the deferral count to 0 exactly when it promotes. The evaluation of a peer-table change (R49, R82)
is the sweep, followed by claiming ahead exactly when it has promoted. -/
def Obligations.PromotionConditions : Prop :=
  ∀ s : State,
    s.promoteAll.1.claims.list.length = s.claims.list.length
    ∧ (∀ (k : Nat) (c c' : Claim), s.claims.list[k]? = some c →
        s.promoteAll.1.claims.list[k]? = some c' →
        let d := if s.promoteAll.1.claims.list.take k = s.claims.list.take k then
          s.claims.deferral else 0
        let meets := c.state = .tentative ∧ c.announce = 2
          ∧ (∃ t, c.firstAnnounce = some t ∧ t + s.config.params.yieldWindow ≤ s.now)
          ∧ (∃ j p, k = j + 1 ∧ s.promoteAll.1.claims.list[j]? = some p ∧ p.state ≠ .tentative)
          ∧ s.peers.blocked c.cell = false ∧ s.outranked d c = false
        (meets → c' = { c with
          state := .held
          heldSince := some s.now
          holdTimer := if (s.classOf c.cell).entryHold = 0 then none
            else some (s.now + (s.classOf c.cell).entryHold) })
        ∧ (¬ meets → c' = c))
    ∧ s.promoteAll.1.claims.deferral
        = (if s.promoteAll.1.claims.list = s.claims.list then s.claims.deferral else 0)
    ∧ (s.promoteAll.2 = true ↔ s.promoteAll.1.claims.list ≠ s.claims.list)
    ∧ s.promoteAll.1 = { s with claims := { s.claims with
        list := s.promoteAll.1.claims.list, deferral := s.promoteAll.1.claims.deferral } }
    ∧ s.evaluatePromotion = (if s.promoteAll.1.claims.list = s.claims.list then s
        else s.promoteAll.1.claimAhead)

/-- A position change handed on (R25, R51 to R53): every entry that starts before the front bound has an
OCCUPIED claim, up to the twelfth live entry; entering one without a claim or with a TENTATIVE claim is an
overrun entry; the claims ahead stay; the entries that end at or before the rear bound are retired with
their claims (R10), up to the twelfth live entry, but not the last live entry, and no other is retired.
Claiming ahead follows (R45, R63) until its conditions fail: the claims on entries that had none are
OCCUPIED where entered and TENTATIVE beyond. -/
def Obligations.PositionChangeOccupiesAndReleases : Prop :=
  ∀ (w : Work) (front : Nat) (rear : Int), w.s.structureOk → w.s.front? = some front →
    w.s.rear? = some rear →
    let s := w.s
    let t := w.positionChange.s
    w.positionChange.recompute = true
    ∧ (w.positionChange.overrunEntry = true ↔ w.overrunEntry = true
        ∨ ∃ i e, s.route.entry? i = some e ∧ s.route.startOf i < front
          ∧ ∀ c ∈ s.claims.list, c.index = i → c.state = .tentative)
    ∧ (∀ i e, s.route.entry? i = some e → s.route.startOf i < front → i < s.route.first + 12 →
        rear < s.route.endOf i ∨ i + 1 = s.route.nextIndex →
        ∃ c ∈ t.claims.list, c.index = i ∧ c.cell = e.cell ∧ c.state = .occupied)
    ∧ (∀ c ∈ s.claims.list, front ≤ s.route.startOf c.index → c ∈ t.claims.list)
    ∧ (∀ c ∈ t.claims.list, rear < s.route.endOf c.index ∨ c.index + 1 = s.route.nextIndex)
    ∧ t.nextToClaim = none
    ∧ (∀ c ∈ t.claims.list, (∀ x ∈ s.claims.list, x.index ≠ c.index) →
        ∃ e, s.route.entry? c.index = some e
          ∧ ((s.route.startOf c.index < front ∧ c.index < s.route.first + 12
              ∧ c = ⟨c.identity, c.index, e.cell, .occupied, 0, none, some s.now, e.crane, none, none⟩)
            ∨ ((front ≤ s.route.startOf c.index ∨ s.route.first + 12 ≤ c.index)
              ∧ c = ⟨c.identity, c.index, e.cell, .tentative, 0, none, none, e.crane, none, none⟩)))
    ∧ (∃ k, t.route = { s.route with entries := s.route.entries.drop k }
        ∧ (∀ i, s.route.first ≤ i → i < s.route.first + k → s.route.endOf i ≤ rear)
        ∧ (∀ i e, s.route.entry? i = some e → i < s.route.first + 12 → s.route.endOf i ≤ rear →
          i + 1 ≠ s.route.nextIndex → i < s.route.first + k)
        ∧ t.route.entries ≠ [] ∧ t.route.entries.getLast? = s.route.entries.getLast?)
    ∧ t.pos = s.pos ∧ t.peers = s.peers ∧ t.ctl = s.ctl ∧ t.auth = s.auth ∧ t.beacon = s.beacon
    ∧ t.link = s.link ∧ t.config = s.config ∧ s.sameOutside t

/-! ### Links and records -/

/-- The receivers read back every run of good frames, one event for each, and hold nothing after it: the
drive link (R180), the air port and the reader line (R182). And the frames the part sends, field by field:
responses, AUTHORITY messages and notices on the drive link, with their number codes (R180), beacons in
their TX_FRAME on the air port (R181, R182). -/
def Obligations.FramesReadBack : Prop :=
  (∀ fs : List Frame,
    (∀ f ∈ fs, f.payload.length ≤ 250 ∧ (f.type = 0x20#8 → f.payload.length = 5)) →
    let bytes := (fs.map fun f => linkFrame f.type f.payload).flatten
    linkScan (bytes.length + 1) false bytes = (fs.map .good, [], false))
  ∧ (∀ fs : List (Byte × List Byte), (∀ f ∈ fs, f.2.length ≤ 250) →
    let bytes := (fs.map fun f => modemFrame f.1 f.2).flatten
    airScan (bytes.length + 1) bytes = (fs.map fun f => .frame f.1 f.2, []))
  ∧ (∀ cs : List CellId,
    let bytes := (cs.map readerFrame).flatten
    readerScan (bytes.length + 1) bytes = (cs, []))
  ∧ (let framed (type : Byte) (payload : List Byte) : List Byte :=
      let covered := [type, BitVec.ofNat 8 payload.length] ++ payload
      [0xA5#8] ++ covered ++ bytesOfHalf (crc16 covered)
    let place (p : Option RoutePos) : List Byte := match p with
      | none => [0#8, 0#8, 0#8, 0#8]
      | some p => bytes16 p.index ++ bytes16 (min 65535 p.offset)
    (∀ type code result, (OutItem.response type code result).frame
      = framed 0x80#8 ([type, byteOf code.code] ++ result))
    ∧ (∀ m : AuthorityMessage, (OutItem.authority m).frame = framed 0x81#8
        ([m.seq, byteOf m.mode.code, byteOf m.route.code,
          byteOf ((if m.point.isSome then 1 else 0) + (if m.stop.isSome then 2 else 0)
            + (if m.first.isSome then 4 else 0) + (if m.overrun then 8 else 0))]
          ++ bytes16 m.length ++ place m.point ++ bytes16 m.ceiling ++ place m.stop
          ++ [match m.first with | none => 0#8 | some c => byteOf c.code])
      ∧ m.payload.length = 17)
    ∧ (∀ cause mode, (OutItem.notice (.stopped cause (some mode))).frame
      = framed 0x90#8 [byteOf cause.code, byteOf mode.code])
    ∧ (∀ id n evicted, (OutItem.notice (.peerLost id n evicted)).frame
      = framed 0x91#8 [id, byteOf n, if evicted then 1#8 else 0#8])
    ∧ (∀ id cell state yielded, (OutItem.notice (.lateContest id cell state yielded)).frame
      = framed 0x92#8 ([id] ++ bytesOfHalf cell
        ++ [byteOf state.code, if yielded then 1#8 else 0#8]))
    ∧ (∀ id released, (OutItem.notice (.mutualBlock id released)).frame
      = framed 0x93#8 [id, if released then 1#8 else 0#8])
    ∧ (∀ cell (correction : Int) u, (OutItem.notice (.fixDisagreement cell correction u)).frame
      = framed 0x94#8 (bytesOfHalf cell
        ++ bytes32 (BitVec.ofInt 32 correction).toNat ++ bytes16 u)))
  ∧ ([Mode.init, .listen, .serving, .parked, .stopped].map Mode.code = List.range 5
    ∧ [RouteState.empty, .active, .truncating].map RouteState.code = List.range 3
    ∧ [ClaimState.tentative, .held, .occupied].map ClaimState.code = List.range' 1 3
    ∧ [Cause.external, .driveSilent, .overrun, .positionLost, .offRoute, .airFault, .startConflict,
      .duplicateId, .collisionRisk].map Cause.code = List.range' 1 9
    ∧ [ResultCode.done, .doneClamped, .accepted, .busy, .notReady, .modeRefused, .malformed,
      .routeRepeat, .routeFull, .noRoute, .badPosition, .rearOutside, .noStopPoint, .moving,
      .causeActive, .peerFresh, .noSuchPeer, .locked, .unknownRequest].map ResultCode.code
        = List.range' 1 19)
  ∧ ∀ s : State, s.ctl.mode ≠ .init →
    let covered := [0xB1#8, s.config.straps.stationId, s.beacon.seq, byteOf s.ctl.mode.code,
        byteOf s.claims.urgency, byteOf s.claims.deferral]
      ++ bytesOfHalf s.beaconPosition.1 ++ bytes16 (min 65535 s.beaconPosition.2)
      ++ bytes16 s.pos.speed ++ [byteOf s.claims.list.length]
      ++ (s.claims.list.map fun c =>
        bytesOfHalf c.cell ++ [byteOf c.state.code] ++ bytes16 (c.crane.getD 0)).flatten
    s.buildPayload = covered ++ bytesOfHalf (crc16 covered)
    ∧ s.buildBeacon.beacon.handed = some ([0x3C#8, 0x01#8,
        BitVec.ofNat 8 (s.buildPayload.length + 1), s.beacon.seq] ++ s.buildPayload)
    ∧ (s.claims.list.length ≤ 12 → s.buildPayload.length = 15 + 5 * s.claims.list.length
      ∧ s.buildPayload.length ≤ 75)
    ∧ (s.pos.pos = none → s.beaconPosition = (noCell, 0))
    ∧ ∀ front, s.front? = some front → s.route.ok → s.route.entries ≠ [] →
      ∃ k e, s.route.entry? k = some e
        ∧ s.beaconPosition = (e.cell, front - s.route.startOf k) ∧ s.route.startOf k ≤ front
        ∧ (front < s.route.endOf k ∨ k + 1 = s.route.nextIndex)

/-- A beacon one station builds (R129, R181) passes, at another, checks 1 to 3 of R134 and checks 1 to 4 of
R69, and the entry it makes there holds the header and the claims from rear to front. -/
def Obligations.BuiltBeaconPassesTheChecks : Prop :=
  ∀ (s : State) (now : Nat),
    1 ≤ s.config.straps.stationId.toNat → s.config.straps.stationId.toNat ≤ 250 →
    s.ctl.mode ≠ .init → s.boundsOk → s.structureOk →
    (∀ c ∈ s.claims.list, ∀ q, c.crane = some q → 1 ≤ q ∧ q ≤ 65535) →
    ∃ b, readBeacon s.buildPayload = some b
      ∧ checkBeacon b now = some
        { id := s.config.straps.stationId, seq := s.beacon.seq, mode := s.ctl.mode
          urgency := s.claims.urgency, deferral := s.claims.deferral
          posCell := s.beaconPosition.1, posOffset := min 65535 s.beaconPosition.2
          speed := s.pos.speed, age := .fresh, lastHeard := now
          claims := s.claims.list.map fun c => ⟨c.cell, c.state, c.crane⟩ }

/-- The checks of a received payload (R134, checks 1 to 3: beacon kind, length, CRC) and the fields it is
read into (R181); the checks of these fields (R69, checks 1 to 4), and the entry a beacon that passes
makes. -/
def Obligations.BeaconFieldChecks : Prop :=
  (∀ payload : List Byte, (∃ b, readBeacon payload = some b) ↔
    ∃ body n, payload = body ++ bytesOfHalf (crc16 body) ∧ body.head? = some 0xB1#8
      ∧ body[12]? = some n ∧ payload.length = 15 + 5 * n.toNat)
  ∧ (∀ (id seq mode urgency deferral o1 o0 v1 v0 : Byte) (cell : CellId)
      (claims : List (CellId × Byte × Half)), claims.length ≤ 255 →
    let body := [0xB1#8, id, seq, mode, urgency, deferral] ++ bytesOfHalf cell
      ++ [o1, o0, v1, v0, byteOf claims.length]
      ++ (claims.map fun c => bytesOfHalf c.1 ++ [c.2.1] ++ bytesOfHalf c.2.2).flatten
    readBeacon (body ++ bytesOfHalf (crc16 body)) = some
      { id := id, seq := seq, mode := mode, urgency := urgency.toNat, deferral := deferral.toNat
        posCell := cell, posOffset := (o1 ++ o0 : Half).toNat, speed := (v1 ++ v0 : Half).toNat
        claims := claims.map fun c =>
          ⟨c.1, c.2.1, if c.2.2 = 0#16 then none else some c.2.2.toNat⟩ })
  ∧ ∀ (b : Beacon) (now : Nat),
    let good := 1 ≤ b.id.toNat ∧ b.id.toNat ≤ 250 ∧ b.claims.length ≤ 12
      ∧ 1 ≤ b.mode.toNat ∧ b.mode.toNat ≤ 4 ∧ b.urgency ≤ 3 ∧ b.deferral ≤ 7
      ∧ (∀ c ∈ b.claims, 1 ≤ c.state.toNat ∧ c.state.toNat ≤ 3 ∧ c.cell ≠ noCell)
      ∧ (b.claims.map (·.cell)).Nodup
    (¬ good → checkBeacon b now = none)
    ∧ (good → ∃ e, checkBeacon b now = some e
        ∧ e.id = b.id ∧ e.seq = b.seq ∧ e.mode.code = b.mode.toNat ∧ e.urgency = b.urgency
        ∧ e.deferral = b.deferral ∧ e.posCell = b.posCell ∧ e.posOffset = b.posOffset
        ∧ e.speed = min 1200 b.speed ∧ e.age = .fresh ∧ e.lastHeard = now
        ∧ e.claims.map (fun p => (p.cell, p.state.code, p.crane))
          = b.claims.map fun c => (c.cell, c.state.toNat, c.crane))

/-- The reading of the configuration memory (R172, R183, R184): a whole record with a good CRC is read
pair by pair and class by class; no answer or an erased marker is no record; another marker, a wrong
length, a parameter count above 18, a memory that ends before the record, a wrong CRC or a parameter id
that the table of R173 lacks is CONFIG_BAD. -/
def Obligations.ConfigurationMemoryRead : Prop :=
  (∀ (pairs : List (ParamId × BitVec 32)) (classes : List (Half × Byte × Half)) (more : List Byte),
    pairs.length ≤ 18 → classes.length = 16 →
    let body := [0x4A#8, 0x36#8] ++ bytes16 (87 + 5 * pairs.length) ++ [byteOf pairs.length]
      ++ (pairs.map fun p => byteOf (ParamId.all.idxOf p.1 + 1) :: bytes32 p.2.toNat).flatten
      ++ (classes.map fun c => bytesOfHalf c.1 ++ [c.2.1] ++ bytesOfHalf c.2.2).flatten
    readRecord (body ++ bytesOfHalf (crc16 body) ++ more)
      = .record (pairs.map fun p => (p.1, p.2.toNat))
          (classes.map fun c => classEntry c.1 c.2.1 c.2.2))
  ∧ readRecord [] = .noRecord
  ∧ (∀ m, readRecord (0xFF#8 :: 0xFF#8 :: m) = .noRecord)
  ∧ (∀ a b m, a ++ b ≠ 0xFFFF#16 → a ++ b ≠ 0x4A36#16 → readRecord (a :: b :: m) = .bad)
  ∧ (∀ l1 l0 p m, 18 < p.toNat ∨ (l1 ++ l0 : Half).toNat ≠ 87 + 5 * p.toNat →
      readRecord (0x4A#8 :: 0x36#8 :: l1 :: l0 :: p :: m) = .bad)
  ∧ (∀ a, readRecord [a] = .bad)
  ∧ (∀ m, m.length < 3 → readRecord (0x4A#8 :: 0x36#8 :: m) = .bad)
  ∧ (∀ l1 l0 p m, m.length < 82 + 5 * p.toNat →
      readRecord (0x4A#8 :: 0x36#8 :: l1 :: l0 :: p :: m) = .bad)
  ∧ (∀ l1 l0 p m x more, m.length = 80 + 5 * p.toNat →
      x ≠ crc16 (0x4A#8 :: 0x36#8 :: l1 :: l0 :: p :: m) →
      readRecord (0x4A#8 :: 0x36#8 :: l1 :: l0 :: p :: (m ++ bytesOfHalf x ++ more)) = .bad)
  ∧ ∀ (pairs : List (Byte × BitVec 32)) (table more : List Byte), pairs.length ≤ 18 →
      table.length = 80 → (∃ p ∈ pairs, p.1 = 0#8 ∨ 18 < p.1.toNat) →
      let body := [0x4A#8, 0x36#8] ++ bytes16 (87 + 5 * pairs.length) ++ [byteOf pairs.length]
        ++ (pairs.map fun p => p.1 :: bytes32 p.2.toNat).flatten ++ table
      readRecord (body ++ bytesOfHalf (crc16 body) ++ more) = .bad

/-! ### Resets and the load -/

/-- The release of a reset (R170): with nothing else holding the part, every block takes its reset state
with the straps latched at the release, and a RESTART does the same with the straps it had (R178). The
model's choices: while the other of the two holds remains the state otherwise stands
(notes/assumptions/10.md); the time base and the external-stop pin keep their values (4.md, 5.md), the
external level taken is released (5.md), the receivers are empty (9.md), the identity counter is 0
(20.md), and the air port shows no frame (28.md). -/
def Obligations.ResetGivesEveryBlockItsState : Prop :=
  ∀ (s : State) (straps : Straps),
    let fresh (x : Straps) : State :=
      { s with
        route := ⟨[], 0, .empty⟩
        pos := ⟨false, none, 0, 0, 0, 0⟩
        claims := ⟨[], 0, 0, none, 0⟩
        peers := ⟨List.replicate 24 none, none⟩
        auth := ⟨0, none, 0, false⟩
        beacon := ⟨none, BitVec.ofNat 16 (x.stationId.toNat * 257), 0#8, 0, none, 0, none, [], none⟩
        ctl := ⟨.init, .none, .none, none, false, false, false, none, false, false, .asserted⟩
        link := ⟨[], [], none, [], false, 0#8, none, none, .clear, .zero, none, [], false, false⟩
        config :=
          { straps := x
            params := ⟨900 + 150 * x.vlen.toNat, 120, 500, 150, 800, 200, 40, 600, 1000, 20000,
              2000, 100, 250, 4000, 50, 100, 5, x.lrate.toNat⟩
            classes := [⟨1000, false, false, 0⟩, ⟨400, false, false, 0⟩, ⟨600, false, true, 200⟩,
              ⟨300, true, false, 0⟩] ++ List.replicate 12 ⟨1000, false, false, 0⟩
            horizon := 3217, linkRate := .ofCode x.lrate.toNat, pendingRate := none
            ready := false, defaults := false, clamped := false, loading := true }
        readerRx := [] }
    (s.resetPin = false →
      exec (.powerOnReset straps) s = .next { fresh straps with supplyLost := false })
    ∧ (s.resetPin = true → exec (.powerOnReset straps) s = .next { s with supplyLost := false })
    ∧ (s.supplyLost = false →
      exec (.pinReset straps) s = .next { fresh straps with resetPin := false })
    ∧ (s.supplyLost = true → exec (.pinReset straps) s = .next { s with resetPin := false })
    ∧ (s.held = false → s.link.restartDue = true →
      exec .restartTakesEffect s = .next (fresh s.config.straps))

/-- A reset pin asserted, or the supply lost, asserts the stop line and cuts off the frame being sent;
until the release nothing else changes (R139, R155, R170; notes/assumptions/10.md). -/
def Obligations.ResetLinesHoldThePart : Prop :=
  ∀ s : State,
    exec .resetPinAsserted s = .next { s with
      resetPin := true
      ctl := { s.ctl with line := .asserted }
      link := { s.link with transmitting := none } }
    ∧ exec .powerLoss s = .next { s with
      supplyLost := true
      ctl := { s.ctl with line := .asserted }
      link := { s.link with transmitting := none } }

/-- A load that ends in a fault (R172): BAD_ID for an id that is not 1..250, CONFIG_BAD for a bad record;
the station stays as it was but for the init fault and the end of the load. CONFIGURATION_LOAD_END with
no load in progress changes nothing (notes/assumptions/23.md). -/
def Obligations.FaultyLoadStaysInInit : Prop :=
  ∀ (s : State) (memory : List Byte), s.held = false → s.noticesComplete →
    let id := s.config.straps.stationId.toNat
    let ended (f : InitFault) : State :=
      ({ s with
        ctl := { s.ctl with initFault := f }
        config := { s.config with loading := false } } : State).transmit
    (s.config.loading = true → id = 0 ∨ 250 < id →
      exec (.configurationLoadEnd memory) s = .next (ended .badId))
    ∧ (s.config.loading = true → 1 ≤ id → id ≤ 250 → readRecord memory = .bad →
      exec (.configurationLoadEnd memory) s = .next (ended .configBad))
    ∧ (s.config.loading = false → exec (.configurationLoadEnd memory) s = .next s)

/-- The parameters of a load (R173, R174): the ranges, a record's pairs, of which the last one of a
parameter counts, and the raises in their order, each clamp and each raise reported. And a load that ends
without fault (R140, R173 to R175) before start: the loader's items, the link rate
(a change waits for the transmitter, and cuts off a frame under reception; notes/assumptions/18.md), LISTEN
with its timers, the external-stop input taken, and the first AUTHORITY message issued last. -/
def Obligations.GoodLoadEntersListen : Prop :=
  (ParamId.all.map ParamId.range = [(800, 1600), (50, 300), (0, 1000), (0, 500), (100, 1000), (100, 500),
    (0, 100), (400, 3000), (500, 5000), (5000, 120000), (500, 10000), (50, 500), (50, 1000), (1000, 10000),
    (20, 200), (0, 300), (2, 20), (0, 3)])
  ∧ (∀ (p : Params) (pairs : List (ParamId × Nat)),
    (∀ i, (applyPairs p pairs).1.get i = match (pairs.filter fun x => x.1 == i).getLast? with
      | none => p.get i
      | some x => max i.range.1 (min i.range.2 x.2))
    ∧ ((applyPairs p pairs).2 = true ↔ ∃ x ∈ pairs, x.2 < x.1.range.1 ∨ x.1.range.2 < x.2))
  ∧ (∀ p : Params,
    (∀ i, (raiseFloors p).1.get i = match i with
      | .yieldWindow => max p.yieldWindow (2 * p.beaconPeriod + p.beaconJitter + 50)
      | .peerStale => max p.peerStale (3 * p.beaconPeriod + p.beaconJitter + 50)
      | .listenMs => max p.listenMs (raiseFloors p).1.peerStale
      | _ => p.get i)
    ∧ ((raiseFloors p).2 = true ↔ (raiseFloors p).1 ≠ p))
  ∧ ∀ (s : State) (memory : List Byte) (c : ConfigLoader) (rate : Option LinkRate),
    s.held = false → s.config.loading = true → s.ctl.mode = .init → s.pos.start = false →
    1 ≤ s.config.straps.stationId.toNat → s.config.straps.stationId.toNat ≤ 250 →
    ((readRecord memory = .noRecord ∧ rate = none ∧ c = { s.config with
        params := (raiseFloors s.config.params).1
        horizon := (raiseFloors s.config.params).1.horizon
        defaults := true
        clamped := s.config.clamped || (raiseFloors s.config.params).2 })
      ∨ ∃ pairs classes, readRecord memory = .record pairs classes
        ∧ (let ps := applyPairs s.config.params pairs
          c = { s.config with
            params := (raiseFloors ps.1).1
            horizon := (raiseFloors ps.1).1.horizon
            classes := classes.map (·.1)
            clamped := s.config.clamped || ps.2 || classes.any (·.2) || (raiseFloors ps.1).2 })
        ∧ rate = (if pairs.any (fun p => p.1 == .linkRate) then
            some (.ofCode c.params.linkRate) else none)) →
    ∃ t, exec (.configurationLoadEnd memory) s = .next t
      ∧ t.config = { c with
          ready := true, loading := false
          linkRate := if s.link.transmitting.isNone then rate.getD c.linkRate else c.linkRate
          pendingRate :=
            match rate with
            | none => c.pendingRate
            | some r => if r = c.linkRate then c.pendingRate
              else if s.link.transmitting.isNone then none else some r }
      ∧ t.link.rx = s.link.rx
      ∧ t.link.rxCut = (s.link.rxCut || (s.link.transmitting.isNone && !s.link.rx.isEmpty
          && decide (rate.getD c.linkRate ≠ c.linkRate)))
      ∧ t.ctl.mode = .listen ∧ t.ctl.line = .asserted ∧ t.ctl.listenFrom = some s.now
      ∧ t.ctl.external = s.extPin
      ∧ t.ctl.causes = (if s.extPin then s.ctl.causes.add .external else s.ctl.causes)
      ∧ t.beacon = { s.beacon with timer := some (s.now + c.params.beaconPeriod
          + s.beacon.jitter.toNat % (c.params.beaconJitter + 1)) }
      ∧ t.link.authTimer = some (s.now + c.params.authPeriod)
      ∧ t.auth = s.restingAuthority
      ∧ t.link.order.getLast? = some (.authority (s.restingMessage .listen none))
      ∧ t.route = s.route ∧ t.pos = s.pos ∧ t.claims = s.claims ∧ t.peers = s.peers
      ∧ s.sameOutside t

/-! ### The drive link -/

/-- A whole good frame of a request that arrives between two frames (R156, R180) joins the intake, or is
discarded and counted when 4 wait; part of a frame is held. A DRIVE_REPORT frame with a wrong CRC or
length, none of whose bytes after the sync reads as a sync, is discarded and counted. So is a request's frame
with a wrong CRC or a length above 250, and the intake stays as it is; with other bytes behind its sync, the
hunt resumes at the byte after the sync. -/
def Obligations.FramesJoinTheIntakeOrAreCounted : Prop :=
  ∀ (s : State) (type : Byte) (payload : List Byte) (crc : Half), s.held = false → s.linkIdle →
    payload.length ≤ 250 →
    (type ≠ 0x20#8 → s.link.intake.length < 4 →
      exec (.driveLinkRequestArrival (linkFrame type payload)) s = .next { s with
        link := { s.link with intake := s.link.intake ++ [⟨type, payload⟩] } })
    ∧ (type ≠ 0x20#8 → 4 ≤ s.link.intake.length →
      exec (.driveLinkRequestArrival (linkFrame type payload)) s = .next { s with
        link := { s.link with counters := s.link.counters.bump .linkFramesRejected } })
    ∧ ((∀ b ∈ byteOf payload.length :: (payload ++ bytesOfHalf crc), b ≠ 0xA5#8) →
      crc ≠ crc16 (0x20#8 :: byteOf payload.length :: payload) ∨ payload.length ≠ 5 →
      exec (.driveReport payload crc) s = .next { s with
        link := { s.link with counters := s.link.counters.bump .linkFramesRejected } })
    ∧ (let bumped : State := { s with
        link := { s.link with counters := s.link.counters.bump .linkFramesRejected } }
      (∀ more : List Byte, crc ≠ crc16 (type :: byteOf payload.length :: payload) →
        let torn := type :: byteOf payload.length :: (payload ++ bytesOfHalf crc)
        ((∀ b ∈ torn, b ≠ 0xA5#8) →
          exec (.driveLinkRequestArrival (0xA5#8 :: torn)) s = .next bumped)
        ∧ exec (.driveLinkRequestArrival (0xA5#8 :: torn ++ more)) s
          = exec (.driveLinkRequestArrival (torn ++ more)) bumped)
      ∧ ∀ (n : Byte) (more : List Byte), 250 < n.toNat →
        (type ≠ 0xA5#8 → exec (.driveLinkRequestArrival [0xA5#8, type, n]) s = .next bumped)
        ∧ exec (.driveLinkRequestArrival (0xA5#8 :: type :: n :: more)) s
          = exec (.driveLinkRequestArrival (type :: n :: more)) bumped)
    ∧ ∀ k, type ≠ 0x20#8 → k < (linkFrame type payload).length →
      exec (.driveLinkRequestArrival ((linkFrame type payload).take k)) s = .next { s with
        link := { s.link with rx := (linkFrame type payload).take k } }

/-- A good DRIVE_REPORT (R156, R167, R26 to R29): discarded whole in INIT; otherwise the echo is
matched or counted as unmatched, the speed is taken up to 1200, and after start a distance of 0..2000 is
carried along the route and added to the distance since fix, while a greater one raises POSITION_LOST and
moves nothing; a report of speed 0 leaves no HELD claim in STOPPED (R60). An echo in SERVING removes its
outstanding entry and the one before it, and a pending issue is then carried out (R166, R167;
notes/assumptions/15.md). The distance since fix passing FIX_GAP_MAX raises POSITION_LOST (R29), and either
raise after start leads to STOPPED. A distance applied is a position change, handed on (R25): after that
raise (notes/assumptions/17.md) it occupies, releases and claims ahead, and the one recomputation follows
(R115, R116, R118); a report that applies none leaves route, modes and authority, but for its own raise. The
carry along the route (R28, R30) keeps the distance and ends on the live entry whose length the offset is
within, or on the last. -/
def Obligations.DriveReportMovesPosition : Prop :=
  (∀ (r : RouteStore) (p : RoutePos) (e : RouteEntry), r.ok → r.entry? p.index = some e →
    ∃ e', r.entry? (r.carryOn p).index = some e' ∧ p.index ≤ (r.carryOn p).index
      ∧ r.distance (r.carryOn p) = r.distance p
      ∧ ((r.carryOn p).offset < e'.length ∨ (r.carryOn p).index + 1 = r.nextIndex))
  ∧ ∀ (s : State) (echo d1 d0 v1 v0 : Byte), s.held = false → s.linkIdle →
    let payload := [echo, d1, d0, v1, v0]
    let crc := crc16 (0x20#8 :: 5#8 :: payload)
    let d := (d1 ++ d0 : Half).toNat
    let v := (v1 ++ v0 : Half).toNat
    let matched :=
      if s.ctl.mode = .serving then s.link.outstanding.any fun o => o.seq == echo
      else decide (s.link.lastSent = some echo)
    (s.ctl.mode = .init → exec (.driveReport payload crc) s = .next s)
    ∧ (s.ctl.mode ≠ .init → ∃ t, exec (.driveReport payload crc) s = .next t
      ∧ t.pos = { s.pos with
          speed := min 1200 v
          pos :=
            match s.pos.start, s.pos.pos with
            | true, some p =>
              if 2000 < d ∨ d = 0 then some p
              else some (s.route.carryOn ⟨p.index, p.offset + d⟩)
            | _, x => x
          sinceFix :=
            if s.pos.start = true ∧ s.pos.pos ≠ none ∧ d ≤ 2000 ∧ d ≠ 0 then
              min 65535 (s.pos.sinceFix + d)
            else s.pos.sinceFix }
      ∧ t.link.counters
          = (if matched then s.link.counters else s.link.counters.bump .unmatchedReports)
      ∧ (matched = false → t.link.latched.unmatchedReport = true)
      ∧ (1200 < v → t.link.latched.clampedReport = true)
      ∧ (s.pos.start = true → s.pos.pos ≠ none →
          2000 < d ∨ (0 < d ∧ s.pos.sinceFix ≤ s.config.params.fixGapMax
            ∧ s.config.params.fixGapMax < min 65535 (s.pos.sinceFix + d)) →
          t.ctl.mode = .stopped ∧ t.ctl.causes.has .positionLost = true
            ∧ t.ctl.markPositionLost = false)
      ∧ (∀ rest, s.ctl.mode = .serving →
          ((∃ o, s.link.outstanding = o :: rest ∧ o.seq = echo)
            ∨ ∃ o o', s.link.outstanding = [o, o'] ∧ rest = [] ∧ o.seq ≠ echo ∧ o'.seq = echo) →
          (∀ x ∈ t.link.outstanding, x ∈ rest ∨ x.issued = s.now)
          ∧ (d = 0 → s.noticesComplete →
            let freed : State := { s with
              pos := { s.pos with speed := min 1200 v }
              link := { s.link with
                outstanding := rest
                pendingIssue := false
                latched := { s.link.latched with
                  clampedReport := s.link.latched.clampedReport || decide (1200 < v) } } }
            t = State.transmit (if s.link.pendingIssue then freed.issueAuthority else freed)))
      ∧ (t.ctl.mode = .stopped → v = 0 → ∀ c ∈ t.claims.list, c.state ≠ .held)
      ∧ (s.pos.start = true → s.pos.pos ≠ none → 0 < d → d ≤ 2000 →
          let taken : State := { s with pos := t.pos }
          let lost := s.pos.sinceFix ≤ s.config.params.fixGapMax
            ∧ s.config.params.fixGapMax < min 65535 (s.pos.sinceFix + d)
          let base : State := if lost then (Work.raise { s := taken } .positionLost).s else taken
          ∃ claims, (Work.positionChange { s := base }).settledInto { t with claims := claims }
            ∧ t.claims = if t.ctl.mode = .stopped ∧ v = 0 then
                { claims with list := claims.list.filter fun c => c.state != .held } else claims)
      ∧ (s.pos.start = false ∨ s.pos.pos = none ∨ d = 0 ∨ 2000 < d →
          t.route = s.route
          ∧ t.reserved = (if t.ctl.mode = .stopped ∧ v = 0 then
              s.reserved.filter fun c => c.state != .held else s.reserved)
          ∧ (s.pos.start = false ∨ s.pos.pos = none ∨ d = 0 → t.ctl = s.ctl ∧ t.auth = s.auth))
      ∧ t.peers = s.peers ∧ t.beacon = s.beacon ∧ t.config = s.config ∧ s.sameOutside t)

/-- The checks every taken request meets first (R157): an unknown type, then NOT_READY in INIT for all but
STATUS, then MALFORMED for a wrong length; nothing else changes. A request that cannot be taken, because
a response waits or another request is older, changes nothing (R156; notes/assumptions/6.md). -/
def Obligations.RequestsTakenAndRefusedAtTheLink : Prop :=
  ∀ (s : State) (f : Frame),
    (s.readyFor f → isRequestType f.type = false → f.type ≠ 0x20#8 →
      exec (.unknownRequest f.type f.payload) s
        = .next (s.replied f.type .unknownRequest []))
    ∧ (s.readyFor f → isRequestType f.type = true → f.type ≠ 0x01#8 → s.ctl.mode = .init →
      exec f.command s = .next (s.replied f.type .notReady []))
    ∧ (s.readyFor f → isRequestType f.type = true → (f.type = 0x01#8 ∨ s.ctl.mode ≠ .init) →
      f.payload.length ≠ requestLength f.type →
      exec f.command s = .next (s.replied f.type .malformed []))
    ∧ (isRequestType f.type = true →
      (s.link.responseWaiting = true ∨ ∃ g, s.link.intake.head? = some g ∧ g ≠ f) →
      exec f.command s = .next s)

/-- The read requests answer with the data of the moment they are taken and change nothing else (R158,
R160 to R162, R180). -/
def Obligations.ReadRequestsAnswer : Prop :=
  ∀ s : State,
    (s.readyFor ⟨0x01#8, []⟩ →
      exec (.status []) s = .next (s.replied 0x01#8 .done (
        [byteOf (bit 1 s.config.ready + bit 2 s.config.defaults + bit 4 s.config.clamped),
          byteOf s.ctl.initFault.code, s.config.straps.stationId, byteOf s.ctl.mode.code]
        ++ bytes16 s.ctl.causes.toNat
        ++ [match s.ctl.first with | none => 0#8 | some c => byteOf c.code,
          byteOf s.route.state.code, byteOf s.route.entries.length, byteOf s.claims.list.length,
          byteOf s.peers.count, byteOf s.claims.urgency, byteOf s.claims.deferral,
          byteOf s.link.latched.toNat]
        ++ (match s.link.lastResult with
          | none => [0#8, 0#8]
          | some r => [r.1, byteOf r.2.code]))))
    ∧ (s.ctl.mode ≠ .init → s.readyFor ⟨0x02#8, []⟩ →
      exec (.readClaims []) s = .next (s.replied 0x02#8 .done (
        byteOf s.claims.list.length :: (s.claims.list.map fun c =>
          bytes16 c.index ++ bytesOfHalf c.cell ++ [byteOf c.state.code, byteOf c.announce,
            byteOf (bit 1 c.firstAnnounce.isSome + bit 2 c.heldSince.isSome
              + bit 4 c.crane.isSome)]
          ++ bytes32 (c.firstAnnounce.getD 0) ++ bytes32 (c.heldSince.getD 0)
          ++ bytes16 (c.crane.getD 0)).flatten)))
    ∧ (∀ slot : Byte, s.ctl.mode ≠ .init → s.readyFor ⟨0x03#8, [slot]⟩ →
      (24 ≤ slot.toNat → exec (.readPeer [slot]) s = .next (s.replied 0x03#8 .malformed []))
      ∧ (slot.toNat < 24 → s.peers.entryIn slot.toNat = none →
        exec (.readPeer [slot]) s = .next (s.replied 0x03#8 .noSuchPeer []))
      ∧ (∀ e, slot.toNat < 24 → s.peers.entryIn slot.toNat = some e →
        exec (.readPeer [slot]) s = .next (s.replied 0x03#8 .done (
          [slot, e.id, e.seq, byteOf e.mode.code, byteOf e.urgency, byteOf e.deferral]
          ++ bytesOfHalf e.posCell ++ bytes16 e.posOffset ++ bytes16 e.speed ++ [byteOf e.age.code]
          ++ bytes32 (s.now - e.lastHeard) ++ [byteOf e.claims.length]
          ++ (e.claims.map fun p => bytesOfHalf p.cell ++ [byteOf p.state.code]
            ++ bytes16 (p.crane.getD 0)).flatten))))
    ∧ (s.ctl.mode ≠ .init → s.readyFor ⟨0x04#8, []⟩ →
      exec (.readCounters []) s = .next (s.replied 0x04#8 .done (
        (let k := s.link.counters
        [k.beaconsSent, k.beaconsDropped, k.beaconPeriodsSkipped, k.beaconsHeard,
          k.beaconsRejected, k.yields, k.lateContests, k.missedFixes, k.offWindowReads,
          k.supervisionExpiries, k.unmatchedReports, k.tableOverflows, k.ignoredReads,
          k.linkFramesRejected].map bytes16).flatten)))

/-- CLEAR_COUNTERS sets the fourteen counters to 0 and CLEAR_LATCHED clears the eight flags (R162, R163);
SET_URGENCY sets the urgency, to 3 when the value is above 3 (R58); AIR_RESET drops the part of a modem
frame received, the beacon in flight and the failure count (R135); RESTART is answered and changes
nothing until its response has been sent (R178). Nothing else changes. -/
def Obligations.ClearsUrgencyAirResetRestart : Prop :=
  ∀ s : State, s.ctl.mode ≠ .init →
    (s.readyFor ⟨0x05#8, []⟩ →
      exec (.clearCounters []) s = .next (({ s with link := { s.link with
        counters := ⟨0, 0, 0, 0, 0, 0, 0, 0, 0, 0, 0, 0, 0, 0⟩ } } : State).replied 0x05#8 .done []))
    ∧ (s.readyFor ⟨0x06#8, []⟩ →
      exec (.clearLatched []) s = .next (({ s with link := { s.link with
        latched := ⟨false, false, false, false, false, false, false, false⟩ } } : State).replied
          0x06#8 .done []))
    ∧ (∀ v : Byte, s.readyFor ⟨0x0B#8, [v]⟩ →
      exec (.setUrgency [v]) s
        = .next (({ s with claims := { s.claims with urgency := min 3 v.toNat } } : State).replied
            0x0B#8 (if v.toNat ≤ 3 then .done else .doneClamped) []))
    ∧ (s.readyFor ⟨0x10#8, []⟩ →
      exec (.airReset []) s
        = .next (({ s with beacon := { s.beacon with rx := [], inFlight := none, failures := 0 } }
            : State).replied 0x10#8 .done []))
    ∧ (s.readyFor ⟨0x13#8, []⟩ →
      exec (.restart []) s = .next (s.replied 0x13#8 .done []))

/-! ### Route, start and modes -/

/-- APPEND_ROUTE (R8, R9, R30): the checks in their order, the first that fails giving the result; a good
block's entries join with consecutive indices, unreleased, and the route is ACTIVE. The position is carried
onto the new entries; where that moves nothing, claiming ahead is evaluated and nothing else of route,
authority or mode changes, though the front bound may lie beyond the old last entry (the model's choice:
notes/assumptions/12.md and 31.md); where it moves it, the position change is handed on, and new entries entered
are an overrun (R25, R52, R116). -/
def Obligations.AppendRouteChecksAndAppends : Prop :=
  ∀ (s : State) (payload : List Byte), s.ctl.mode ≠ .init → s.readyFor ⟨0x07#8, payload⟩ →
    payload.length = 160 →
    let block := routeSlots payload
    let real := block.takeWhile fun x => x.cell != noCell
    let refused (code : ResultCode) : Prop :=
      exec (.appendRoute payload) s = .next (s.replied 0x07#8 code [])
    let disordered := real = [] ∨ (∃ x ∈ block.drop real.length, x.cell ≠ noCell)
      ∨ ∃ x ∈ real, ¬ (300 ≤ x.length ∧ x.length ≤ 3000
        ∧ (∀ v, x.cap = some v → 50 ≤ v ∧ v ≤ 1000) ∧ (∀ o, x.stop = some o → o < x.length)
        ∧ (x.crane ≠ none → (s.classOf x.cell).craneSpot = true))
    let repeated := ¬ (real.map (·.cell)).Nodup
      ∨ ∃ x ∈ real, ∃ e ∈ s.route.entries, e.cell = x.cell
    let full := 64 < s.route.entries.length + real.length
      ∨ 65535 < s.route.nextIndex + real.length - 1
    (s.route.state = .truncating → refused .busy)
    ∧ (s.route.state ≠ .truncating → disordered → refused .malformed)
    ∧ (s.route.state ≠ .truncating → ¬ disordered → repeated → refused .routeRepeat)
    ∧ (s.route.state ≠ .truncating → ¬ disordered → ¬ repeated → full → refused .routeFull)
    ∧ (s.route.state ≠ .truncating → ¬ disordered → ¬ repeated → ¬ full →
      ∃ t k, exec (.appendRoute payload) s = .next t
        ∧ t.route.entries = (s.route.entries
            ++ real.map fun x =>
              (⟨x.cell, x.length, x.cap, x.stop, x.crane, false⟩ : RouteEntry)).drop k
        ∧ t.route.nextIndex = s.route.nextIndex + real.length
        ∧ t.route.state = .active
        ∧ t.link.lastResult = some (0x07#8, .done)
        ∧ (let route : RouteStore := ⟨s.route.entries
              ++ real.map fun x => (⟨x.cell, x.length, x.cap, x.stop, x.crane, false⟩ : RouteEntry),
            s.route.nextIndex + real.length, .active⟩
          t.pos = { s.pos with pos := s.pos.pos.map route.carryOn }
          ∧ ((∀ p, s.pos.pos = some p → route.carryOn p = p) →
            k = 0 ∧ t.pos = s.pos ∧ t.auth = s.auth ∧ t.ctl = s.ctl ∧ t.reserved = s.reserved
            ∧ t.claims = ({ s with route := route } : State).claimAhead.claims)
          ∧ ∀ p, s.pos.pos = some p → route.carryOn p ≠ p →
            let moved : Work := Work.positionChange
              { s := { s with route := route, pos := { s.pos with pos := some (route.carryOn p) } } }
            t.route = moved.s.route ∧ t.reserved = moved.s.reserved
            ∧ (moved.overrunEntry = false → moved.s.recomputedInto t)
            ∧ (moved.overrunEntry = true → t.ctl.causes.has .overrun = true
              ∧ t.auth = { moved.s.restingAuthority with overrun := true }
              ∧ (s.pos.start = true → t.ctl.mode = .stopped)))
        ∧ t.peers = s.peers ∧ t.beacon = s.beacon ∧ t.config = s.config ∧ s.sameOutside t)

/-- TRUNCATE_ROUTE (R12, R13): BUSY while TRUNCATING; DONE without effect when EMPTY; before start the
route is emptied; after it the OCCUPIED claims and the HELD claims that start before the commit point are
kept, the entries after the last kept claim are discarded, the backoff timer stops and the route is
TRUNCATING; where claims were dropped the authority is recomputed. -/
def Obligations.TruncateRouteKeepsWhatIsCommitted : Prop :=
  ∀ s : State, s.ctl.mode ≠ .init → s.readyFor ⟨0x08#8, []⟩ →
    (s.route.state = .truncating →
      exec (.truncateRoute []) s = .next (s.replied 0x08#8 .busy []))
    ∧ (s.route.state = .empty →
      exec (.truncateRoute []) s = .next (s.replied 0x08#8 .done []))
    ∧ (s.route.state = .active → s.pos.start = false →
      exec (.truncateRoute []) s
        = .next (({ s with route := ⟨[], 0, .empty⟩ } : State).replied 0x08#8 .done []))
    ∧ ∀ (p : RoutePos) (front : Nat), s.route.state = .active → s.pos.start = true →
      s.pos.pos = some p → s.front? = some front →
      let commit := front + s.config.params.stopping s.pos.speed + s.config.params.margin
      let kept := s.claims.list.filter fun c =>
        c.state == .occupied || (c.state == .held && decide (s.route.startOf c.index < commit))
      let last := match kept.getLast? with | some c => c.index | none => s.route.first
      let entries := s.route.entries.take (last + 1 - s.route.first)
      ∃ t, exec (.truncateRoute []) s = .next t
        ∧ t.route = ⟨entries, s.route.first + entries.length, .truncating⟩
        ∧ t.claims = { s.claims with list := kept, backoff := none }
        ∧ t.pos = { s.pos with pos := some (
            if last < p.index then ⟨last, s.route.distance p - s.route.startOf last⟩ else p) }
        ∧ s.claimsSettledInto { s with route := t.route, claims := t.claims, pos := t.pos } t
        ∧ t.link.lastResult = some (0x08#8, .accepted)
        ∧ t.peers = s.peers ∧ t.beacon = s.beacon ∧ t.config = s.config ∧ s.sameOutside t

/-- PROCEED (R17): refused in LISTEN and without an unreleased stop point; otherwise the first unreleased
stop point is released, no other entry changes, claiming ahead is evaluated and the authority recomputed. -/
def Obligations.ProceedReleasesFirstStopPoint : Prop :=
  ∀ s : State, s.ctl.mode ≠ .init → s.readyFor ⟨0x09#8, []⟩ →
    (s.ctl.mode = .listen → exec (.proceed []) s = .next (s.replied 0x09#8 .modeRefused []))
    ∧ (s.ctl.mode ≠ .listen → (∀ e ∈ s.route.entries, e.stop = none ∨ e.released = true) →
      exec (.proceed []) s = .next (s.replied 0x09#8 .noStopPoint []))
    ∧ ∀ (before after : List RouteEntry) (e : RouteEntry), s.ctl.mode ≠ .listen →
      s.route.entries = before ++ e :: after → e.stop ≠ none → e.released = false →
      (∀ x ∈ before, x.stop = none ∨ x.released = true) →
      ∃ t, exec (.proceed []) s = .next t
        ∧ t.route = { s.route with entries := before ++ { e with released := true } :: after }
        ∧ ({ s with route := t.route } : State).claimAhead.recomputedInto t
        ∧ t.link.lastResult = some (0x09#8, .done) ∧ t.reserved = s.reserved
        ∧ t.pos = s.pos ∧ t.peers = s.peers ∧ t.beacon = s.beacon ∧ t.config = s.config
        ∧ s.sameOutside t

/-- SET_START (R36, R37, R54): the checks in their order; an accepted one sets the position and the start
flag, claims OCCUPIED every entry from the rear bound's to the front bound's, and retires the entries
before them. START_CONFLICT is raised when a peer lists a start claim's cell as HELD or OCCUPIED (R97), and
the test of R142 then decides between STOPPED, LISTEN and SERVING. -/
def Obligations.SetStartMakesStartClaims : Prop :=
  ∀ (s : State) (i o1 o0 : Byte), s.ctl.mode ≠ .init → s.readyFor ⟨0x0A#8, [i, o1, o0]⟩ →
    let offset := (o1 ++ o0 : Half).toNat
    let x := s.route.startOf i.toNat + offset
    let unc := s.config.params.startUnc
    let refused (code : ResultCode) : Prop :=
      exec (.setStart [i, o1, o0]) s = .next (s.replied 0x0A#8 code [])
    let misplaced := 15 < i.toNat
      ∨ (∀ e, s.route.entry? i.toNat = some e → e.length ≤ offset)
      ∨ s.route.total ≤ x + unc
    (s.ctl.mode ≠ .listen ∨ s.pos.start = true → refused .modeRefused)
    ∧ (s.ctl.mode = .listen → s.pos.start = false → s.route.state = .empty → refused .noRoute)
    ∧ (s.ctl.mode = .listen → s.pos.start = false → s.route.state ≠ .empty → misplaced →
      refused .badPosition)
    ∧ (s.ctl.mode = .listen → s.pos.start = false → s.route.state ≠ .empty → ¬ misplaced →
      x < s.config.params.vehicleLength + unc → refused .rearOutside)
    ∧ (s.ctl.mode = .listen → s.pos.start = false → s.route.state ≠ .empty → ¬ misplaced →
      s.config.params.vehicleLength + unc ≤ x → s.claims.list = [] →
      let u := min 300 unc
      ∃ t a b ea eb xa xb, exec (.setStart [i, o1, o0]) s = .next t
        ∧ s.route.cellAt (x - s.config.params.vehicleLength - u) = some (a, ea, xa)
        ∧ s.route.cellAt (x + u) = some (b, eb, xb)
        ∧ t.pos = ⟨true, some ⟨i.toNat, offset⟩, unc, 0, 0, s.pos.speed⟩
        ∧ t.reserved.map (·.index) = List.range' a (b + 1 - a)
        ∧ (∀ c ∈ t.reserved, c.state = .occupied ∧ c.announce = 2 ∧ c.firstAnnounce = none
            ∧ c.heldSince = some s.now ∧ c.yieldTimer = none ∧ c.holdTimer = none)
        ∧ t.route = { s.route with entries := s.route.entries.drop (a - s.route.first) }
        ∧ t.link.lastResult = some (0x0A#8, .done)
        ∧ (let conflict := ∃ c ∈ t.reserved, s.peers.blocked c.cell = true
          let others := ∃ c, c ≠ .startConflict ∧ s.ctl.causes.has c = true
          (conflict → t.ctl.causes.startConflict = true)
          ∧ (¬ conflict → t.ctl.causes.startConflict = s.ctl.causes.startConflict)
          ∧ (conflict → s.ctl.causes.startConflict = false →
            s.noticed t (.stopped .startConflict (some t.ctl.mode)))
          ∧ (others → t.ctl.mode = .stopped)
          ∧ (¬ others → s.ctl.listenDone = false → t.ctl.mode = .listen)
          ∧ (¬ others → s.ctl.listenDone = true → conflict ∨ s.ctl.causes.startConflict = true →
            t.ctl.mode = .stopped)
          ∧ (¬ others → s.ctl.listenDone = true → ¬ conflict → s.ctl.causes.startConflict = false →
            s.route.ok → s.pos.speed = 0 → t.ctl.mode = .serving ∧ t.ctl.line = .released
              ∧ t.auth.overrun = false))
        ∧ t.peers = s.peers ∧ t.beacon = s.beacon ∧ t.config = s.config ∧ s.sameOutside t)

/-- PARK (R149): refused outside SERVING and while moving; otherwise PARKED, with the stop line
asserted, the OCCUPIED claims alone, no backoff, parked count 0, nothing outstanding, no authority, and
the AUTHORITY message before the response. -/
def Obligations.ParkGivesBackReservations : Prop :=
  ∀ s : State, s.ctl.mode ≠ .init → s.readyFor ⟨0x0C#8, []⟩ →
    (s.ctl.mode ≠ .serving → exec (.park []) s = .next (s.replied 0x0C#8 .modeRefused []))
    ∧ (s.ctl.mode = .serving → s.pos.speed ≠ 0 →
      exec (.park []) s = .next (s.replied 0x0C#8 .moving []))
    ∧ (s.ctl.mode = .serving → s.pos.speed = 0 →
      exec (.park []) s = .next (({ s with
        ctl := { s.ctl with mode := .parked, line := .asserted }
        claims := { s.claims with
          list := s.claims.list.filter fun c => c.state == .occupied
          backoff := none }
        beacon := { s.beacon with parkedCount := 0 }
        auth := s.restingAuthority
        link := ({ s.link with outstanding := [], pendingIssue := false } : DriveLink).issued
          (s.restingMessage .parked none) } : State).replied 0x0C#8 .done []))

/-- UNPARK (R150, R152): refused outside PARKED; with the carrier at rest in an own claim, or at the start
of an entry, the station enters SERVING: line released, overrun flag clear, new TENTATIVE claims only, the
message supervised. That the bound may lie strictly inside the cell of a claim not OCCUPIED is the model's
choice (notes/assumptions/34.md). The station also enters for a carrier reported moving that can stop within
the authority computed, and one that cannot is stopped by OVERRUN (R115). -/
def Obligations.UnparkEntersServing : Prop :=
  ∀ s : State, s.ctl.mode ≠ .init → s.readyFor ⟨0x0D#8, []⟩ →
    (s.ctl.mode ≠ .parked → exec (.unpark []) s = .next (s.replied 0x0D#8 .modeRefused []))
    ∧ (s.ctl.mode = .parked → ∃ t, exec (.unpark []) s = .next t
        ∧ (s.servingFrom s.ctl).recomputedInto t
        ∧ t.link.lastResult = some (0x0D#8, .done)
        ∧ t.route = s.route ∧ t.pos = s.pos ∧ t.peers = s.peers ∧ t.beacon = s.beacon
        ∧ t.config = s.config ∧ s.sameOutside t)
    ∧ (s.ctl.mode = .parked → s.pos.speed = 0 → s.frontStands → s.link.outstanding = [] →
      ∃ t new, exec (.unpark []) s = .next t
        ∧ t.ctl = { s.ctl with mode := .serving, line := .released }
        ∧ t.auth.overrun = false
        ∧ t.claims.list = s.claims.list ++ new
        ∧ (∀ c ∈ new, c.state = .tentative ∧ c.announce = 0)
        ∧ t.link.outstanding = [⟨s.link.authSeq, s.now⟩]
        ∧ t.link.lastResult = some (0x0D#8, .done)
        ∧ t.route = s.route ∧ t.pos = s.pos ∧ t.peers = s.peers ∧ t.beacon = s.beacon
        ∧ t.config = s.config ∧ s.sameOutside t)

/-- RESUME (R147, R148): refused outside STOPPED, while moving, and while a cause is not satisfied, with
the set and the causes not satisfied; otherwise the causes are emptied and the station goes to LISTEN
while the listen period runs, else to SERVING when the carrier stands in an own claim or at the start of
an entry; elsewhere the entry into SERVING meets OVERRUN (R115; inside the cell of a claim not OCCUPIED, the
model's choice: notes/assumptions/34.md). Each cause is satisfied on the condition
of R146. -/
def Obligations.ResumeClearsCauses : Prop :=
  (∀ s : State,
    (s.satisfied .external = true ↔ s.ctl.external = false)
    ∧ s.satisfied .driveSilent = true
    ∧ (s.satisfied .overrun = true ↔ s.pos.speed = 0 ∧ ∃ front, s.front? = some front
      ∧ ∃ c ∈ s.claims.list, c.state = .occupied ∧ s.route.startOf c.index ≤ front
        ∧ front ≤ s.route.endOf c.index)
    ∧ (s.satisfied .positionLost = true ↔ s.ctl.markPositionLost = true)
    ∧ (s.satisfied .offRoute = true ↔ s.ctl.markOffRoute = true)
    ∧ (s.satisfied .airFault = true ↔ s.ctl.markAirFault = true)
    ∧ (s.satisfied .startConflict = true ↔
      ∀ c ∈ s.claims.list, c.state = .occupied → s.peers.blocked c.cell = false)
    ∧ s.satisfied .duplicateId = false ∧ s.satisfied .collisionRisk = false
    ∧ ∀ c, s.unsatisfied.has c = (s.ctl.causes.has c && !s.satisfied c))
  ∧ ∀ s : State, s.ctl.mode ≠ .init → s.readyFor ⟨0x0E#8, []⟩ →
    let cleared (m : Mode) (line : StopLine) : ModeController :=
      { s.ctl with
        mode := m, line := line, causes := .none, first := none
        markPositionLost := false, markOffRoute := false, markAirFault := false }
    (s.ctl.mode ≠ .stopped → exec (.resume []) s = .next (s.replied 0x0E#8 .modeRefused []))
    ∧ (s.ctl.mode = .stopped → s.pos.speed ≠ 0 →
      exec (.resume []) s = .next (s.replied 0x0E#8 .moving []))
    ∧ (s.ctl.mode = .stopped → s.pos.speed = 0 →
      (∃ c, s.ctl.causes.has c = true ∧ s.satisfied c = false) →
      exec (.resume []) s = .next (s.replied 0x0E#8 .causeActive
        (bytes16 s.ctl.causes.toNat ++ bytes16 s.unsatisfied.toNat)))
    ∧ (s.ctl.mode = .stopped → s.pos.speed = 0 →
      (∀ c, s.ctl.causes.has c = true → s.satisfied c = true) →
      (s.ctl.listenDone = false →
        exec (.resume []) s = .next (({ s with
          ctl := cleared .listen .asserted
          auth := s.restingAuthority
          link := s.link.issued (s.restingMessage .listen none) } : State).replied
            0x0E#8 .done []))
      ∧ (s.ctl.listenDone = true → ∃ t, exec (.resume []) s = .next t
          ∧ (s.servingFrom (cleared .serving .released)).recomputedInto t
          ∧ t.link.lastResult = some (0x0E#8, .done)
          ∧ t.route = s.route ∧ t.pos = s.pos ∧ t.peers = s.peers ∧ t.beacon = s.beacon
          ∧ t.config = s.config ∧ s.sameOutside t)
      ∧ (s.ctl.listenDone = true → s.frontStands →
        ∃ t new, exec (.resume []) s = .next t
          ∧ t.ctl = cleared .serving .released
          ∧ t.auth.overrun = false
          ∧ t.claims.list = s.claims.list ++ new
          ∧ (∀ c ∈ new, c.state = .tentative ∧ c.announce = 0)
          ∧ t.link.lastResult = some (0x0E#8, .done)
          ∧ t.route = s.route ∧ t.pos = s.pos ∧ t.peers = s.peers ∧ t.beacon = s.beacon
          ∧ t.config = s.config ∧ s.sameOutside t))

/-- CLEAR_PEER (R81): NO_SUCH_PEER without an entry, PEER_FRESH for a FRESH one; a STALE entry is removed
with its PEER_LOST notice, the evicted flag clear, and the removal handed on: promotion, then the
recomputation (R82). -/
def Obligations.ClearPeerRemovesStaleEntry : Prop :=
  ∀ (s : State) (id : StationId), s.ctl.mode ≠ .init → s.readyFor ⟨0x0F#8, [id]⟩ →
    ((∀ e ∈ s.peers.entries, e.id ≠ id) →
      exec (.clearPeer [id]) s = .next (s.replied 0x0F#8 .noSuchPeer []))
    ∧ ∀ (k : Nat) (e : PeerEntry), s.peers.slots[k]? = some (some e) → e.id = id →
      (∀ j < k, ∀ x, s.peers.slots[j]? = some (some x) → x.id ≠ id) →
      (e.age = .fresh → exec (.clearPeer [id]) s = .next (s.replied 0x0F#8 .peerFresh []))
      ∧ (e.age = .stale → ∃ t, exec (.clearPeer [id]) s = .next t
        ∧ t.peers = { s.peers with slots := s.peers.slots.set k none }
        ∧ s.noticed t (.peerLost id (e.claims.filter fun p => p.state == .occupied).length false)
        ∧ ({ s with peers := t.peers } : State).evaluatePromotion.recomputedInto t
        ∧ t.link.lastResult = some (0x0F#8, .done)
        ∧ t.route = s.route ∧ t.pos = s.pos ∧ t.beacon = s.beacon ∧ t.config = s.config
        ∧ s.sameOutside t)

/-- SET_PARAM (R176; what it does at once is the model's reading, notes/assumptions/13.md for a new
VEHICLE_LENGTH, handed on with its releases, and 14.md for the order of the effects and the ageing): LOCKED and latched outside LISTEN, MALFORMED for an id that names none or
LINK_RATE; otherwise the value is clamped and stored, the floors raised and H computed. Before start,
and with the ageing and listen times as they were, nothing else changes. At once after start: a rear bound
moved off the route (R24) or a distance since fix now above FIX_GAP_MAX raises POSITION_LOST; always: the
entries are aged by a new PEER_STALE or PEER_EXPIRE (R68), and a new LISTEN_MS that has passed ends the
listen period (R141). SET_CLASS (R2, R177): LOCKED
and latched outside LISTEN, MALFORMED above index 15; otherwise the entry is replaced whole, its speed cap
and entry hold clamped, and nothing else changes. -/
def Obligations.ConfigurationRequestsStoreClamped : Prop :=
  (∀ (s : State) (i a b c d : Byte), s.ctl.mode ≠ .init → s.readyFor ⟨0x11#8, [i, a, b, c, d]⟩ →
    let v := (a ++ b ++ c ++ d : BitVec 32).toNat
    (s.ctl.mode ≠ .listen → exec (.setParam [i, a, b, c, d]) s
      = .next ((s.latch .configWriteRefused).replied 0x11#8 .locked []))
    ∧ (s.ctl.mode = .listen → i = 0#8 ∨ 17 < i.toNat →
      exec (.setParam [i, a, b, c, d]) s = .next (s.replied 0x11#8 .malformed []))
    ∧ ∀ p : ParamId, s.ctl.mode = .listen → i.toNat = ParamId.all.idxOf p + 1 → p ≠ .linkRate →
      let w := max p.range.1 (min p.range.2 v)
      let raised := raiseFloors (s.config.params.put w p)
      let limited : Bool := decide (w ≠ v) || raised.2
      let code : ResultCode := if limited then .doneClamped else .done
      let config := { s.config with
        params := raised.1
        horizon := raised.1.stopping raised.1.maxSpeed + raised.1.margin
        clamped := s.config.clamped || limited }
      (∃ t, exec (.setParam [i, a, b, c, d]) s = .next t ∧ t.config = config
        ∧ t.link.lastResult = some (0x11#8, code) ∧ s.sameOutside t
        ∧ t.pos = s.pos ∧ t.beacon = s.beacon
        ∧ (raised.1.vehicleLength = s.config.params.vehicleLength → t.route = s.route)
        ∧ (s.pos.start = true → raised.1.vehicleLength ≠ s.config.params.vehicleLength →
          (∀ rear, ({ s with config := config } : State).rear? = some rear → rear < 0 →
            t.stoppedBy .positionLost ∧ t.ctl.markPositionLost = false)
          ∧ (s.claimsOk →
            let moved := (Work.positionChange { s := { s with config := config } }).s
            t.route = moved.route ∧ t.reserved = moved.reserved))
        ∧ (s.pos.start = true → s.pos.sinceFix ≤ s.config.params.fixGapMax →
          raised.1.fixGapMax < s.pos.sinceFix →
          t.stoppedBy .positionLost ∧ t.ctl.markPositionLost = false)
        ∧ (s.peers.slots.length = 24 →
          let ages := raised.1.peerStale ≠ s.config.params.peerStale
            ∨ raised.1.peerExpire ≠ s.config.params.peerExpire
          (¬ ages → t.peers = s.peers)
          ∧ (ages → t.peers = { s.peers with
              slots := s.peers.slots.map fun o => o.bind fun e =>
                if e.lastHeard + raised.1.peerExpire ≤ s.now then none
                else if e.lastHeard + raised.1.peerStale ≤ s.now then some { e with age := .stale }
                else some e })
          ∧ (ages → s.config.ok → s.link.notices.length + s.peers.entries.length ≤ 8 →
            ∀ e ∈ s.peers.entries,
              e.lastHeard + raised.1.peerExpire ≤ s.now →
              s.noticed t (.peerLost e.id
                (e.claims.filter fun p => p.state == .occupied).length false)))
        ∧ (∀ entered, s.ctl.listenFrom = some entered → raised.1.listenMs ≠ s.config.params.listenMs →
          (entered + raised.1.listenMs ≤ s.now → t.ctl.listenFrom = none ∧ t.ctl.listenDone = true
            ∧ (s.pos.start = false → t.ctl.mode = .listen)
            ∧ (s.pos.start = true → t.ctl.mode = .serving ∨ t.ctl.mode = .stopped))
          ∧ (s.now < entered + raised.1.listenMs → t.ctl.listenFrom = some entered
            ∧ t.ctl.listenDone = s.ctl.listenDone)))
      ∧ (s.pos.start = false → raised.1.peerStale = s.config.params.peerStale →
        raised.1.peerExpire = s.config.params.peerExpire →
        raised.1.listenMs = s.config.params.listenMs →
        exec (.setParam [i, a, b, c, d]) s
          = .next (({ s with config := config } : State).replied 0x11#8 code [])))
  ∧ ∀ (s : State) (k c1 c0 f h1 h0 : Byte), s.ctl.mode ≠ .init →
    s.readyFor ⟨0x12#8, [k, c1, c0, f, h1, h0]⟩ →
    let cap := (c1 ++ c0 : Half).toNat
    let hold := (h1 ++ h0 : Half).toNat
    let limited := decide (cap < 50 ∨ 1000 < cap ∨ 2000 < hold)
    (s.ctl.mode ≠ .listen → exec (.setClass [k, c1, c0, f, h1, h0]) s
      = .next ((s.latch .configWriteRefused).replied 0x12#8 .locked []))
    ∧ (s.ctl.mode = .listen → 15 < k.toNat → exec (.setClass [k, c1, c0, f, h1, h0]) s
      = .next (s.replied 0x12#8 .malformed []))
    ∧ (s.ctl.mode = .listen → k.toNat ≤ 15 → exec (.setClass [k, c1, c0, f, h1, h0]) s
      = .next (({ s with config := { s.config with
          classes := s.config.classes.set k.toNat
            ⟨max 50 (min 1000 cap), f.getLsbD 0, f.getLsbD 1, min 2000 hold⟩
          clamped := s.config.clamped || limited } } : State).replied
            0x12#8 (if limited then .doneClamped else .done) []))

/-! ### The transmitter and the AUTHORITY messages -/

/-- The transmitter's frame has been sent (R159, R178): it takes the oldest item, an AUTHORITY message's
sequence becoming the last sent one; with nothing waiting it is free; after the response of a RESTART it
takes none and the reset is due. A link rate that waited is put in force once the transmitter is free
(R175), a frame whose reception is under way when the rate changes is marked to fail, and the transmitter
goes on. -/
def Obligations.TransmitterTakesOldestItem : Prop :=
  (∀ (s : State) (r : LinkRate), s.held = false → s.config.pendingRate = some r →
    s.link.transmitting = none →
    exec .linkRateChange s = .next (State.transmit { s with
      config := { s.config with linkRate := r, pendingRate := none }
      link := { s.link with
        rxCut := s.link.rxCut || (decide (r ≠ s.config.linkRate) && !s.link.rx.isEmpty) } }))
  ∧ ∀ (s : State) (x : OutItem), s.held = false → s.link.transmitting = some x →
    s.link.restartDue = false → s.config.pendingRate = none →
    (x.isRestartDone = true → exec .transmitterFrameSent s = .next { s with
      link := { s.link with transmitting := none, restartDue := true } })
    ∧ (x.isRestartDone = false → s.link.outgoing = [] → exec .transmitterFrameSent s = .next { s with
      link := { s.link with transmitting := none } })
    ∧ ∀ y ys, x.isRestartDone = false → s.link.outgoing = y :: ys →
      exec .transmitterFrameSent s = .next { s with
        link := { s.link with
          transmitting := some y
          outgoing := ys
          lastSent := match y with | .authority m => some m.seq | _ => s.link.lastSent } }

/-- An issue (R165, R166): an unsent AUTHORITY message that stands last is withdrawn with its outstanding
entry; in SERVING the new message is supervised, or held back while 2 are outstanding; in the other modes
it joins without supervision. -/
def Obligations.IssueOfAuthority : Prop :=
  ∀ (s : State) (order : List OutItem) (outstanding : List Outstanding),
    ((∃ m, s.link.outgoing = order ++ [.authority m]
        ∧ outstanding = s.link.outstanding.filter fun o => o.seq != m.seq)
      ∨ (s.link.outgoing = order ∧ outstanding = s.link.outstanding
        ∧ ∀ x ∈ order.getLast?, x.isAuthority = false)) →
    let m : AuthorityMessage :=
      ⟨s.link.authSeq, s.ctl.mode, s.route.state, s.auth.length, s.auth.point, s.auth.ceiling,
        s.auth.overrun, s.route.firstStop, if s.ctl.mode = .stopped then s.ctl.first else none⟩
    (s.ctl.mode = .serving → outstanding.length < 2 →
      s.issueAuthority = { s with link := { s.link with
        outgoing := order ++ [.authority m]
        outstanding := outstanding ++ [⟨s.link.authSeq, s.now⟩]
        authSeq := s.link.authSeq + 1 } })
    ∧ (s.ctl.mode = .serving → 2 ≤ outstanding.length →
      s.issueAuthority = { s with link := { s.link with
        outgoing := order, outstanding := outstanding, pendingIssue := true } })
    ∧ (s.ctl.mode ≠ .serving →
      s.issueAuthority = { s with link := { s.link with
        outgoing := order ++ [.authority m], outstanding := outstanding
        authSeq := s.link.authSeq + 1 } })

/-- The authority period (R107, R115, R165): the timer is re-armed for AUTH_PERIOD; outside SERVING the
message carries no authority; in SERVING the record is computed afresh and stands when a carrier at the
reported speed can stop within it, and OVERRUN stops the station when it cannot; the issue follows in every
mode, in SERVING as R166 has it. That an expiry which also shortens the length or enters STOPPED makes this
one issue alone is the model's reading (notes/assumptions/25.md). -/
def Obligations.AuthorityPeriodRecomputes : Prop :=
  ∀ (s : State) (due : Nat), s.held = false → s.link.authTimer = some due → due ≤ s.now →
    s.noticesComplete →
    (s.ctl.mode ≠ .serving →
      exec .authorityPeriodExpiry s = .next (State.transmit { s with
        auth := s.restingAuthority
        link := { s.link.issued (s.restingMessage s.ctl.mode
            (if s.ctl.mode = .stopped then s.ctl.first else none)) with
          authTimer := some (s.now + s.config.params.authPeriod) } }))
    ∧ (s.ctl.mode = .serving → ∃ t, exec .authorityPeriodExpiry s = .next t
      ∧ t.link.authTimer = some (s.now + s.config.params.authPeriod)
      ∧ (s.computeAuthority.2 = false →
          s.config.params.stopping s.pos.speed ≤ s.computeAuthority.1.length →
          t.ctl = s.ctl ∧ t.auth = s.computeAuthority.1 ∧ t.claims = s.claims
          ∧ t = State.transmit (State.issueAuthority { s with
              auth := s.computeAuthority.1
              link := { s.link with authTimer := some (s.now + s.config.params.authPeriod) } }))
      ∧ (s.computeAuthority.2 = true
          ∨ s.computeAuthority.1.length < s.config.params.stopping s.pos.speed →
          t.stoppedBy .overrun ∧ t.auth = { s.restingAuthority with overrun := true }
            ∧ t.claims = { s.claims with list := s.reserved }
            ∧ t.link.outstanding = [] ∧ t.link.pendingIssue = false
            ∧ t.link.order.getLast? = some (.authority
              { s.restingMessage .stopped t.ctl.first with overrun := true })
            ∧ t.link.authSeq = s.link.authSeq + 1)
      ∧ t.route = s.route ∧ t.pos = s.pos ∧ t.peers = s.peers ∧ t.beacon = s.beacon
      ∧ t.config = s.config ∧ s.sameOutside t)

/-! ### The air port and the reader line -/

/-- An expiry of the beacon timer (R125 to R129): the generator steps and the timer is re-armed in every
mode; a beacon is due in LISTEN, SERVING and STOPPED and at every third expiry in PARKED, and is
built, its TX_FRAME handed to the modem, when none is in flight, else skipped and counted. -/
def Obligations.BeaconTimerBuildsOrSkips : Prop :=
  ∀ (s : State) (due : Nat), s.held = false → s.beacon.timer = some due → due ≤ s.now →
    let fed := (s.beacon.jitter.getLsbD 0).xor ((s.beacon.jitter.getLsbD 2).xor
      ((s.beacon.jitter.getLsbD 3).xor (s.beacon.jitter.getLsbD 5)))
    let j := (s.beacon.jitter >>> 1) ||| (if fed then 0x8000#16 else 0#16)
    let armed (count : Nat) : BeaconUnit :=
      { s.beacon with
        jitter := j
        timer := some (s.now + s.config.params.beaconPeriod
          + j.toNat % (s.config.params.beaconJitter + 1))
        parkedCount := count }
    let built (count : Nat) : State :=
      { s with beacon := { armed count with
        lastPayload := some s.buildPayload
        handed := some ([0x3C#8, 0x01#8, BitVec.ofNat 8 (s.buildPayload.length + 1), s.beacon.seq]
          ++ s.buildPayload)
        inFlight := some ⟨s.beacon.seq, s.now, s.claims.list.map (·.identity),
          decide (s.route.state = .truncating)⟩
        seq := s.beacon.seq + 1 } }
    let skipped (count : Nat) : State :=
      { s with
        beacon := armed count
        link := { s.link with counters := s.link.counters.bump .beaconPeriodsSkipped } }
    (s.ctl.mode = .listen ∨ s.ctl.mode = .serving ∨ s.ctl.mode = .stopped →
      (s.beacon.inFlight = none →
        exec .beaconTimerExpiry s = .next (built s.beacon.parkedCount))
      ∧ (s.beacon.inFlight ≠ none →
        exec .beaconTimerExpiry s = .next (skipped s.beacon.parkedCount)))
    ∧ (s.ctl.mode = .parked → s.beacon.parkedCount < 2 →
      exec .beaconTimerExpiry s = .next { s with beacon := armed (s.beacon.parkedCount + 1) })
    ∧ (s.ctl.mode = .parked → 2 ≤ s.beacon.parkedCount →
      (s.beacon.inFlight = none → exec .beaconTimerExpiry s = .next (built 0))
      ∧ (s.beacon.inFlight ≠ none → exec .beaconTimerExpiry s = .next (skipped 0)))

/-- TX_DONE SENT for the beacon in flight (R131, R132): it is counted, the failure count is 0, the record
is empty, a completing beacon ends the truncation, and each claim of the snapshot still in the list is
announced, its yield-window timer started at its first announcement (R46, R47; OCCUPIED claims too:
notes/assumptions/27.md). Then promotion is evaluated for every claim (R49), the truncation completed, and
claiming ahead evaluated; where the claims changed the authority is recomputed once (R63). A tag that
matches nothing, another status or another length changes nothing; one that matches settles the beacon in
flight, also where it answers a beacon from before a RESTART (the model's choice: notes/assumptions/33.md). -/
def Obligations.TxDoneSettlesBeacon : Prop :=
  ∀ s : State, s.held = false → s.ctl.mode ≠ .init → s.beacon.rx = [] → s.noticesComplete →
    (∀ body : List Byte, body.length ≤ 250 →
      (s.beacon.inFlight = none ∨ body.length ≠ 2
        ∨ (∀ b, s.beacon.inFlight = some b → body.head? ≠ some b.seq)
        ∨ (body.getLast? ≠ some 0x00#8 ∧ body.getLast? ≠ some 0x01#8)) →
      exec (.txDone body) s = .next s.transmit)
    ∧ ∀ b : InFlight, s.beacon.inFlight = some b →
      ∃ t, exec (.txDone [b.seq, 0x00#8]) s = .next t
        ∧ t.beacon = { s.beacon with failures := 0, inFlight := none }
        ∧ t.route = { s.route with
            state := if b.completing = true ∧ s.route.state = .truncating then .active
              else s.route.state }
        ∧ t.link.counters = s.link.counters.bump .beaconsSent
        ∧ (s.ctl.causes.airFault = true → t.ctl.markAirFault = true)
        ∧ s.claimsSettledInto ((({ s with ctl := { s.ctl with
              markAirFault := s.ctl.markAirFault || s.ctl.causes.airFault } } : State).announce
                b.identities).promoteAll.1.completeTruncation b).claimAhead t
        ∧ (∀ c ∈ s.claims.list, c.state ≠ .tentative ∨ t.ctl.mode = s.ctl.mode →
            ∃ c' ∈ t.claims.list, c'.identity = c.identity
              ∧ c'.announce = (if b.identities.contains c.identity then
                  if c.announce = 0 then 1 else min 2 (c.announce + 1) else c.announce)
              ∧ c'.firstAnnounce =
                (if b.identities.contains c.identity = true ∧ c.announce = 0 then some s.now
                  else c.firstAnnounce)
              ∧ c'.yieldTimer =
                (if b.identities.contains c.identity = true ∧ c.announce = 0 then
                  some (s.now + s.config.params.yieldWindow) else c.yieldTimer))
        ∧ t.pos = s.pos ∧ t.peers = s.peers ∧ t.config = s.config ∧ s.sameOutside t

/-- A failure of the beacon in flight (R133), by TX_DONE DROPPED or after 150 ms: it is counted, the
failure count rises, the record is empty; below AIR_FAIL_LIMIT nothing else changes, and from it on
AIR_FAULT is raised, which in SERVING and PARKED stops the station. -/
def Obligations.BeaconFailureCountsAndRaises : Prop :=
  ∀ (s : State) (b : InFlight), s.held = false → s.noticesComplete →
    s.beacon.inFlight = some b →
    let failed : BeaconUnit :=
      { s.beacon with failures := min 255 (s.beacon.failures + 1), inFlight := none }
    let fails (c : Instr) : Prop :=
      (failed.failures < s.config.params.airFailLimit →
        exec c s = .next (State.transmit { s with
          beacon := failed
          link := { s.link with counters := s.link.counters.bump .beaconsDropped } }))
      ∧ (s.config.params.airFailLimit ≤ failed.failures → ∃ t, exec c s = .next t
        ∧ t.beacon = failed ∧ t.link.counters = s.link.counters.bump .beaconsDropped
        ∧ t.ctl.causes.has .airFault = true ∧ t.ctl.markAirFault = false
        ∧ (s.ctl.mode = .serving ∨ s.ctl.mode = .parked → t.stoppedBy .airFault)
        ∧ (s.ctl.causes.airFault = false → s.noticed t (.stopped .airFault (some t.ctl.mode)))
        ∧ t.reserved = s.reserved ∧ t.route = s.route ∧ t.pos = s.pos ∧ t.peers = s.peers
        ∧ t.config = s.config ∧ s.sameOutside t)
    (s.ctl.mode ≠ .init → s.beacon.rx = [] → fails (.txDone [b.seq, 0x01#8]))
    ∧ (b.handedAt + 150 ≤ s.now → fails .beaconTxTimeout)

/-- A received frame (R69 to R76, R134): rejected and counted; the station's own and ignored beacons leave
everything; the own station id raises DUPLICATE_ID; an accepted beacon takes its entry's slot, an unknown
station the lowest empty slot or that of the oldest STALE entry (an entry is STALE only from its expiry on:
notes/assumptions/32.md), and is handed on: the contests, then
promotion, then the recomputation (R82); with 24 FRESH entries it is dropped and the hold runs. -/
def Obligations.ReceivedBeaconUpdatesPeerTable : Prop :=
  ∀ (s : State) (body : List Byte), s.held = false → s.ctl.mode ≠ .init → s.beacon.rx = [] →
    s.noticesComplete → body.length ≤ 250 →
    let rejected := exec (.rxFrame body) s = .next (State.transmit { s with
      link := { s.link with counters := s.link.counters.bump .beaconsRejected } })
    let unchanged := exec (.rxFrame body) s = .next s.transmit
    let stored (base : State) (k : Nat) (e : PeerEntry) (t : State) : Prop :=
      let met := (Work.contest { s := { base with
        peers := { base.peers with slots := base.peers.slots.set k (some e) }
        link := { base.link with counters := base.link.counters.bump .beaconsHeard } } } e).s
      exec (.rxFrame body) s = .next t
      ∧ t.peers = { s.peers with slots := s.peers.slots.set k (some e) }
      ∧ t.link.counters.beaconsHeard = min 65535 (s.link.counters.beaconsHeard + 1)
      ∧ t.link.counters.beaconsRejected = s.link.counters.beaconsRejected
      ∧ met.evaluatePromotion.recomputedInto t
      ∧ t.link.counters = met.link.counters
      ∧ t.link.latched.lateContest = met.link.latched.lateContest
      ∧ t.link.latched.mutualBlock = met.link.latched.mutualBlock
      ∧ (∀ x ∈ met.link.outgoing, x.isNotice = true → x.complete t.ctl.mode ∈ t.link.order)
      ∧ t.route = s.route ∧ t.pos = s.pos ∧ t.beacon = s.beacon ∧ t.config = s.config
      ∧ s.sameOutside t
    (readBeacon body = none → rejected)
    ∧ ∀ b, readBeacon body = some b →
      (s.beacon.lastPayload = some body → unchanged)
      ∧ (s.beacon.lastPayload ≠ some body →
        (checkBeacon b s.now = none → rejected)
        ∧ ∀ e, checkBeacon b s.now = some e →
          (e.id = s.config.straps.stationId → ∃ t, exec (.rxFrame body) s = .next t
            ∧ t.ctl.causes.has .duplicateId = true
            ∧ (s.ctl.mode = .serving ∨ s.ctl.mode = .parked → t.ctl.mode = .stopped)
            ∧ t.link.counters = s.link.counters ∧ t.reserved = s.reserved
            ∧ t.peers = s.peers ∧ t.route = s.route ∧ t.pos = s.pos ∧ t.beacon = s.beacon
            ∧ t.config = s.config ∧ s.sameOutside t)
          ∧ (e.id ≠ s.config.straps.stationId →
            (∀ k old, s.peers.slotOf e.id = some k → s.peers.slots[k]? = some (some old) →
              let d := (e.seq - old.seq).toNat
              let accepted := (1 ≤ d ∧ d ≤ 127) ∨ (e.mode = .listen ∧ old.mode ≠ .listen)
                ∨ old.age = .stale
              (accepted → ∃ t, stored s k e t) ∧ (¬ accepted → unchanged))
            ∧ (s.peers.slotOf e.id = none →
              (∀ k, s.peers.emptySlot = some k → ∃ t, stored s k e t)
              ∧ (s.peers.emptySlot = none →
                (∀ k old, s.peers.slots[k]? = some (some old) → old.age = .stale →
                  (∀ j x, s.peers.slots[j]? = some (some x) → x.age = .stale →
                    old.lastHeard < x.lastHeard ∨ (old.lastHeard = x.lastHeard ∧ k ≤ j)) →
                  let lost : Notice := .peerLost old.id
                    (old.claims.filter fun p => p.state == .occupied).length true
                  ∃ t, stored (s.queueNotice lost) k e t ∧ s.noticed t lost)
                ∧ ((∀ x ∈ s.peers.entries, x.age = .fresh) →
                  exec (.rxFrame body) s = .next (State.transmit { s with
                    peers := { s.peers with hold := some (s.now + s.config.params.peerStale) }
                    link := { s.link with
                      counters := s.link.counters.bump .tableOverflows
                      latched := s.link.latched.set .tableOverflow } }))))))

/-- A modem frame of another kind, and one whose length is above 250, is counted once under
BEACONS_REJECTED and changes nothing else (the model's choice for one of TX_DONE kind:
notes/assumptions/30.md); in INIT no byte is taken (R182). -/
def Obligations.OtherModemFramesAreRejected : Prop :=
  ∀ (s : State) (kind : Byte), s.held = false → s.noticesComplete →
    let rejected : State := State.transmit { s with
      link := { s.link with counters := s.link.counters.bump .beaconsRejected } }
    (∀ bytes, s.ctl.mode = .init → exec (.modemFrameOtherKind bytes) s = .next s)
    ∧ (∀ body : List Byte, s.ctl.mode ≠ .init → s.beacon.rx = [] → body.length ≤ 250 →
      kind ≠ 0x02#8 → kind ≠ 0x03#8 →
      exec (.modemFrameOtherKind (modemFrame kind body)) s = .next rejected)
    ∧ ∀ n : Byte, s.ctl.mode ≠ .init → s.beacon.rx = [] → 250 < n.toNat → kind ≠ 0x3C#8 →
      exec (.modemFrameOtherKind [0x3C#8, kind, n]) s = .next rejected

/-- A transponder read (R31 to R35): before start it is counted as ignored; NO_CELL has no effect; a cell
of a live entry in the window is a fix, outside it an off-window read; any other cell is an off-route read,
the second in succession raising OFF_ROUTE. In INIT it is discarded. A fix is a position change, handed on
after the raise of POSITION_LOST by its own backward correction (R33; notes/assumptions/17.md): occupation,
release, claiming ahead, and the recomputation (R25, R32, R118). -/
def Obligations.TransponderReadIsSorted : Prop :=
  ∀ (s : State) (cell : CellId), s.held = false → s.readerRx = [] → s.noticesComplete →
    let read (t : State) : Prop := exec (.transponderRead (readerFrame cell)) s = .next t
    let same (t : State) : Prop := t.peers = s.peers ∧ t.beacon = s.beacon ∧ t.config = s.config
      ∧ s.sameOutside t
    (s.ctl.mode = .init → read s)
    ∧ (s.ctl.mode ≠ .init → s.pos.start = false → read (State.transmit { s with
        link := { s.link with counters := s.link.counters.bump .ignoredReads } }))
    ∧ ∀ p, s.ctl.mode ≠ .init → s.pos.start = true → s.pos.pos = some p →
      (cell = noCell → read s.transmit)
      ∧ (cell ≠ noCell → (∀ e ∈ s.route.entries, e.cell ≠ cell) →
        (s.pos.offRoute = 0 → read (State.transmit { s with pos := { s.pos with offRoute := 1 } }))
        ∧ (s.pos.offRoute = 1 → ∃ t, read t ∧ t.pos = { s.pos with offRoute := 2 }
          ∧ t.ctl.causes.has .offRoute = true ∧ t.ctl.mode = .stopped ∧ t.reserved = s.reserved
          ∧ t.route = s.route ∧ t.link.counters = s.link.counters ∧ same t)
        ∧ (2 ≤ s.pos.offRoute → read s.transmit))
      ∧ ∀ j, cell ≠ noCell → s.route.indexOfCell cell = some j →
        (j + 1 < p.index ∨ p.index + 2 < j → read (State.transmit { s with
          pos := { s.pos with offRoute := 0 }
          link := { s.link with counters := s.link.counters.bump .offWindowReads } }))
        ∧ (p.index ≤ j + 1 → j ≤ p.index + 2 →
          let correction : Int := (s.route.startOf j : Int) - (s.route.distance p : Int)
          let disagrees := s.pos.u + s.config.params.fixTol < correction.natAbs
          ∃ t, read t
            ∧ t.pos = ⟨true, some ⟨j, 0⟩, 0, 0, 0, s.pos.speed⟩
            ∧ t.link.counters = (if j = p.index + 2 then s.link.counters.bump .missedFixes
                else s.link.counters)
            ∧ (disagrees → t.link.latched.fixDisagreement = true
                ∧ s.noticed t (.fixDisagreement cell correction s.pos.u))
            ∧ (correction < 0 → s.route.startOf j < s.config.params.vehicleLength →
                t.ctl.causes.has .positionLost = true ∧ t.ctl.markPositionLost = false)
            ∧ (¬ (correction < 0 ∧ s.route.startOf j < s.config.params.vehicleLength) →
                s.ctl.causes.positionLost = true → t.ctl.markPositionLost = true)
            ∧ (s.ctl.causes.offRoute = true → t.ctl.markOffRoute = true)
            ∧ (let taken : State := { s with pos := t.pos }
              let lost := correction < 0 ∧ s.route.startOf j < s.config.params.vehicleLength
              let base : State := if lost then (Work.raise { s := taken } .positionLost).s else taken
              let moved : Work := Work.positionChange { s := base }
              Work.settledInto { moved with s := { moved.s with ctl := { moved.s.ctl with
                markOffRoute := moved.s.ctl.markOffRoute || moved.s.ctl.causes.offRoute
                markPositionLost := moved.s.ctl.markPositionLost
                  || (decide (¬ lost) && moved.s.ctl.causes.positionLost) } } } t)
            ∧ same t)

/-! ### Lines and timers -/

/-- An edge of the external-stop input (R151): asserted, it raises EXTERNAL, which in SERVING and PARKED
stops the station; released, it only changes the level taken; in INIT only the pin changes. -/
def Obligations.ExternalEdgeRaisesExternal : Prop :=
  ∀ s : State, s.held = false → s.noticesComplete →
    (∀ a, s.ctl.mode = .init → exec (.externalStopEdge a) s = .next { s with extPin := a })
    ∧ (s.ctl.mode ≠ .init → s.ctl.external = true →
      exec (.externalStopEdge false) s = .next (State.transmit { s with
        extPin := false, ctl := { s.ctl with external := false } }))
    ∧ (s.ctl.mode ≠ .init → s.ctl.external = false → ∃ t,
      exec (.externalStopEdge true) s = .next t
      ∧ t.extPin = true ∧ t.ctl.external = true ∧ t.ctl.causes.has .external = true
      ∧ (s.ctl.mode = .serving ∨ s.ctl.mode = .parked → t.stoppedBy .external
        ∧ t.auth = s.restingAuthority)
      ∧ (s.ctl.mode = .serving → t.link.outstanding = [])
      ∧ (s.ctl.mode = .listen → s.pos.start = false → t.ctl.mode = .listen)
      ∧ (s.ctl.causes.external = false → s.noticed t (.stopped .external (some t.ctl.mode)))
      ∧ t.link.counters = s.link.counters ∧ t.reserved = s.reserved
      ∧ t.route = s.route ∧ t.pos = s.pos ∧ t.peers = s.peers ∧ t.beacon = s.beacon
      ∧ t.config = s.config ∧ t.readerRx = s.readerRx ∧ t.resetPin = s.resetPin
      ∧ t.supplyLost = s.supplyLost ∧ t.now = s.now)

/-- Supervision expires (R168): it is counted, the outstanding list is emptied, DRIVE_SILENT is raised and
the station stops with its TENTATIVE claims dropped. -/
def Obligations.SupervisionExpiryStops : Prop :=
  ∀ (s : State) (o : Outstanding) (os : List Outstanding), s.held = false → s.noticesComplete →
    s.ctl.mode = .serving → s.link.outstanding = o :: os →
    o.issued + s.config.params.superviseMs ≤ s.now →
    ∃ t, exec .supervisionExpiry s = .next t
      ∧ t.stoppedBy .driveSilent
      ∧ t.link.counters = s.link.counters.bump .supervisionExpiries
      ∧ t.link.outstanding = [] ∧ t.link.pendingIssue = false
      ∧ t.claims = { s.claims with list := s.reserved }
      ∧ t.auth = s.restingAuthority
      ∧ (s.ctl.causes.driveSilent = false → s.noticed t (.stopped .driveSilent (some .stopped)))
      ∧ t.route = s.route ∧ t.pos = s.pos ∧ t.peers = s.peers ∧ t.beacon = s.beacon
      ∧ t.config = s.config ∧ s.sameOutside t

/-- The listen timer expires LISTEN_MS after the entry into LISTEN (R141, R142): the listen period is done;
in LISTEN after start the station enters SERVING when no cause is in the set, where a carrier that cannot
stop within its authority meets OVERRUN (R115; the front bound inside the cell of a claim not OCCUPIED, the
model's choice: notes/assumptions/34.md), and STOPPED when one is; before start, and in the other
modes, nothing else changes. -/
def Obligations.ListenTimerEndsListenPeriod : Prop :=
  ∀ (s : State) (entered : Nat), s.held = false → s.noticesComplete →
    s.ctl.listenFrom = some entered → entered + s.config.params.listenMs ≤ s.now →
    (s.ctl.mode ≠ .listen ∨ s.pos.start = false →
      exec .listenTimerExpiry s = .next (State.transmit { s with
        ctl := { s.ctl with listenFrom := none, listenDone := true } }))
    ∧ (s.ctl.mode = .listen → s.pos.start = true → s.ctl.causes.isEmpty = false → ∃ t,
      exec .listenTimerExpiry s = .next t
        ∧ t.ctl = { s.ctl with
            mode := .stopped, line := .asserted, listenFrom := none, listenDone := true }
        ∧ t.auth = s.restingAuthority ∧ t.claims = { s.claims with list := s.reserved }
        ∧ t.route = s.route ∧ t.pos = s.pos ∧ t.peers = s.peers ∧ t.beacon = s.beacon
        ∧ t.config = s.config ∧ s.sameOutside t)
    ∧ (s.ctl.mode = .listen → s.pos.start = true → s.ctl.causes.isEmpty = true → ∃ t,
      exec .listenTimerExpiry s = .next t
        ∧ (s.servingFrom { s.ctl with listenFrom := none, listenDone := true }).recomputedInto t
        ∧ t.route = s.route ∧ t.pos = s.pos ∧ t.peers = s.peers ∧ t.beacon = s.beacon
        ∧ t.config = s.config ∧ s.sameOutside t)
    ∧ (s.ctl.mode = .listen → s.pos.start = true → s.ctl.causes.isEmpty = true →
      s.pos.speed = 0 → s.frontStands → ∃ t new,
      exec .listenTimerExpiry s = .next t
        ∧ t.ctl = { s.ctl with
            mode := .serving, line := .released, listenFrom := none, listenDone := true }
        ∧ t.auth.overrun = false
        ∧ t.claims.list = s.claims.list ++ new
        ∧ (∀ c ∈ new, c.state = .tentative ∧ c.announce = 0)
        ∧ t.route = s.route ∧ t.pos = s.pos ∧ t.peers = s.peers ∧ t.beacon = s.beacon
        ∧ t.config = s.config ∧ s.sameOutside t)

/-- The yield-window and entry-hold timers (R47 to R50), the own claim list in order (R38). A yield window
that has elapsed makes its claim HELD when the conditions of R48 hold, evaluates the claims after it and
claiming ahead, and leads to a recomputation; when the claim cannot be promoted it only stops the timer. An
entry hold that has elapsed leads to a recomputation and changes nothing else. -/
def Obligations.ClaimTimersExpire : Prop :=
  ∀ (s : State) (before after : List Claim) (c : Claim), s.held = false → s.noticesComplete →
    s.claimsOk → s.claims.list = before ++ c :: after →
    let same (t : State) : Prop := t.route = s.route ∧ t.pos = s.pos ∧ t.peers = s.peers
      ∧ t.beacon = s.beacon ∧ t.config = s.config ∧ t.link.counters = s.link.counters
      ∧ s.sameOutside t
    (∀ due, c.yieldTimer = some due → due ≤ s.now →
      (s.promotable s.claims.deferral before.getLast? c = false →
        exec (.yieldWindowExpiry c.index) s = .next (State.transmit { s with
          claims := { s.claims with list := before ++ { c with yieldTimer := none } :: after } }))
      ∧ (s.promotable s.claims.deferral before.getLast? c = true →
        let held : Claim := { c with
          yieldTimer := none
          state := .held
          heldSince := some s.now
          holdTimer := if (s.classOf c.cell).entryHold = 0 then none
            else some (s.now + (s.classOf c.cell).entryHold) }
        let promoted : State := { s with claims := { s.claims with
          list := before ++ held :: (s.sweep (some held) 0 after).1
          deferral := 0 } }
        ∃ t, exec (.yieldWindowExpiry c.index) s = .next t
          ∧ promoted.claimAhead.recomputedInto t
          ∧ held ∈ t.claims.list ∧ t.claims.deferral = 0 ∧ same t))
    ∧ ∀ due, c.holdTimer = some due → due ≤ s.now →
      let stopped : State := { s with claims := { s.claims with
        list := before ++ { c with holdTimer := none } :: after } }
      ∃ t, exec (.entryHoldExpiry c.index) s = .next t
        ∧ stopped.recomputedInto t
        ∧ t.reserved = stopped.reserved ∧ t.claims.deferral = s.claims.deferral
        ∧ t.claims.backoff = s.claims.backoff ∧ same t

/-- The other timers (R57, R77 to R79): the backoff timer and the table-overflow hold stop, claiming ahead is
evaluated, the authority recomputed where it made claims, and no claim but TENTATIVE ones may change; an entry not heard for PEER_STALE becomes STALE and nothing else changes;
one not heard for PEER_EXPIRE is removed with its PEER_LOST notice and the removal handed on (R82). Where
both pass at one expiry the entry becomes STALE and is removed in the one step (R79). -/
def Obligations.BackoffHoldAndPeerAgeing : Prop :=
  ∀ s : State, s.held = false → s.noticesComplete →
    let same (t : State) : Prop := t.reserved = s.reserved ∧ t.claims.deferral = s.claims.deferral
      ∧ t.claims.urgency = s.claims.urgency ∧ t.link.counters = s.link.counters
      ∧ t.route = s.route ∧ t.pos = s.pos ∧ t.beacon = s.beacon ∧ t.config = s.config
      ∧ s.sameOutside t
    (∀ due, s.claims.backoff = some due → due ≤ s.now → ∃ t,
      exec .backoffExpiry s = .next t ∧ t.claims.backoff = none
        ∧ s.claimsSettledInto
          ({ s with claims := { s.claims with backoff := none } } : State).claimAhead t
        ∧ t.peers = s.peers ∧ same t)
    ∧ (∀ due, s.peers.hold = some due → due ≤ s.now → ∃ t,
      exec .tableOverflowHoldExpiry s = .next t ∧ t.peers = { s.peers with hold := none }
        ∧ s.claimsSettledInto ({ s with peers := t.peers } : State).claimAhead t
        ∧ t.claims.backoff = s.claims.backoff ∧ same t)
    ∧ ∀ (k : Nat) (e : PeerEntry), s.peers.slots[k]? = some (some e) →
      let removed (c : Instr) : Prop := ∃ t, exec c s = .next t
        ∧ t.peers = { s.peers with slots := s.peers.slots.set k none }
        ∧ s.noticed t (.peerLost e.id (e.claims.filter fun p => p.state == .occupied).length false)
        ∧ ({ s with peers := t.peers } : State).evaluatePromotion.recomputedInto t
        ∧ t.link.counters = s.link.counters
        ∧ t.route = s.route ∧ t.pos = s.pos ∧ t.beacon = s.beacon ∧ t.config = s.config
        ∧ s.sameOutside t
      let stale := e.age = .fresh ∧ e.lastHeard + s.config.params.peerStale ≤ s.now
      let expired := e.lastHeard + s.config.params.peerExpire ≤ s.now
      (stale → ¬ expired → exec (.peerStale k) s = .next { s with peers := { s.peers with
        slots := s.peers.slots.set k (some { e with age := .stale }) } })
      ∧ (stale → expired → removed (.peerStale k))
      ∧ (expired → removed (.peerExpire k) ∧ .peerStale k ∉ s.due)

end
end

