-- ==== Sys2Proof/Laws/State.lean ====
section
/-!
SUPPORT. One lemma per field per update of the state, true by rfl, so that no later proof unfolds a
record update.
-/

namespace Sys2Proof.Machine

variable (s : State)

/-! ### setRoute -/

@[simp] theorem State.setRoute_route (r : RouteStore) : (s.setRoute r).route = r := rfl
@[simp] theorem State.setRoute_pos (r : RouteStore) : (s.setRoute r).pos = s.pos := rfl
@[simp] theorem State.setRoute_claims (r : RouteStore) : (s.setRoute r).claims = s.claims := rfl
@[simp] theorem State.setRoute_peers (r : RouteStore) : (s.setRoute r).peers = s.peers := rfl
@[simp] theorem State.setRoute_auth (r : RouteStore) : (s.setRoute r).auth = s.auth := rfl
@[simp] theorem State.setRoute_beacon (r : RouteStore) : (s.setRoute r).beacon = s.beacon := rfl
@[simp] theorem State.setRoute_ctl (r : RouteStore) : (s.setRoute r).ctl = s.ctl := rfl
@[simp] theorem State.setRoute_link (r : RouteStore) : (s.setRoute r).link = s.link := rfl
@[simp] theorem State.setRoute_config (r : RouteStore) : (s.setRoute r).config = s.config := rfl
@[simp] theorem State.setRoute_readerRx (r : RouteStore) : (s.setRoute r).readerRx = s.readerRx := rfl
@[simp] theorem State.setRoute_extPin (r : RouteStore) : (s.setRoute r).extPin = s.extPin := rfl
@[simp] theorem State.setRoute_resetPin (r : RouteStore) : (s.setRoute r).resetPin = s.resetPin := rfl
@[simp] theorem State.setRoute_supplyLost (r : RouteStore) : (s.setRoute r).supplyLost = s.supplyLost := rfl
@[simp] theorem State.setRoute_now (r : RouteStore) : (s.setRoute r).now = s.now := rfl
@[simp] theorem State.setRoute_pending (r : RouteStore) : (s.setRoute r).pending = s.pending := rfl
@[simp] theorem State.setRoute_freeCount (r : RouteStore) : (s.setRoute r).freeCount = s.freeCount := rfl

/-! ### setPos -/

@[simp] theorem State.setPos_route (p : PositionUnit) : (s.setPos p).route = s.route := rfl
@[simp] theorem State.setPos_pos (p : PositionUnit) : (s.setPos p).pos = p := rfl
@[simp] theorem State.setPos_claims (p : PositionUnit) : (s.setPos p).claims = s.claims := rfl
@[simp] theorem State.setPos_peers (p : PositionUnit) : (s.setPos p).peers = s.peers := rfl
@[simp] theorem State.setPos_auth (p : PositionUnit) : (s.setPos p).auth = s.auth := rfl
@[simp] theorem State.setPos_beacon (p : PositionUnit) : (s.setPos p).beacon = s.beacon := rfl
@[simp] theorem State.setPos_ctl (p : PositionUnit) : (s.setPos p).ctl = s.ctl := rfl
@[simp] theorem State.setPos_link (p : PositionUnit) : (s.setPos p).link = s.link := rfl
@[simp] theorem State.setPos_config (p : PositionUnit) : (s.setPos p).config = s.config := rfl
@[simp] theorem State.setPos_readerRx (p : PositionUnit) : (s.setPos p).readerRx = s.readerRx := rfl
@[simp] theorem State.setPos_extPin (p : PositionUnit) : (s.setPos p).extPin = s.extPin := rfl
@[simp] theorem State.setPos_resetPin (p : PositionUnit) : (s.setPos p).resetPin = s.resetPin := rfl
@[simp] theorem State.setPos_supplyLost (p : PositionUnit) : (s.setPos p).supplyLost = s.supplyLost := rfl
@[simp] theorem State.setPos_now (p : PositionUnit) : (s.setPos p).now = s.now := rfl
@[simp] theorem State.setPos_pending (p : PositionUnit) : (s.setPos p).pending = s.pending := rfl
@[simp] theorem State.setPos_freeCount (p : PositionUnit) : (s.setPos p).freeCount = s.freeCount := rfl

/-! ### setClaims -/

@[simp] theorem State.setClaims_route (c : ClaimEngine) : (s.setClaims c).route = s.route := rfl
@[simp] theorem State.setClaims_pos (c : ClaimEngine) : (s.setClaims c).pos = s.pos := rfl
@[simp] theorem State.setClaims_claims (c : ClaimEngine) : (s.setClaims c).claims = c := rfl
@[simp] theorem State.setClaims_peers (c : ClaimEngine) : (s.setClaims c).peers = s.peers := rfl
@[simp] theorem State.setClaims_auth (c : ClaimEngine) : (s.setClaims c).auth = s.auth := rfl
@[simp] theorem State.setClaims_beacon (c : ClaimEngine) : (s.setClaims c).beacon = s.beacon := rfl
@[simp] theorem State.setClaims_ctl (c : ClaimEngine) : (s.setClaims c).ctl = s.ctl := rfl
@[simp] theorem State.setClaims_link (c : ClaimEngine) : (s.setClaims c).link = s.link := rfl
@[simp] theorem State.setClaims_config (c : ClaimEngine) : (s.setClaims c).config = s.config := rfl
@[simp] theorem State.setClaims_readerRx (c : ClaimEngine) : (s.setClaims c).readerRx = s.readerRx := rfl
@[simp] theorem State.setClaims_extPin (c : ClaimEngine) : (s.setClaims c).extPin = s.extPin := rfl
@[simp] theorem State.setClaims_resetPin (c : ClaimEngine) : (s.setClaims c).resetPin = s.resetPin := rfl
@[simp] theorem State.setClaims_supplyLost (c : ClaimEngine) :
    (s.setClaims c).supplyLost = s.supplyLost := rfl
@[simp] theorem State.setClaims_now (c : ClaimEngine) : (s.setClaims c).now = s.now := rfl
@[simp] theorem State.setClaims_pending (c : ClaimEngine) : (s.setClaims c).pending = s.pending := rfl
@[simp] theorem State.setClaims_freeCount (c : ClaimEngine) : (s.setClaims c).freeCount = s.freeCount := rfl

/-! ### setList -/

@[simp] theorem State.setList_route (cs : List Claim) : (s.setList cs).route = s.route := rfl
@[simp] theorem State.setList_pos (cs : List Claim) : (s.setList cs).pos = s.pos := rfl
@[simp] theorem State.setList_claims (cs : List Claim) :
    (s.setList cs).claims = { s.claims with list := cs } := rfl
@[simp] theorem State.setList_peers (cs : List Claim) : (s.setList cs).peers = s.peers := rfl
@[simp] theorem State.setList_auth (cs : List Claim) : (s.setList cs).auth = s.auth := rfl
@[simp] theorem State.setList_beacon (cs : List Claim) : (s.setList cs).beacon = s.beacon := rfl
@[simp] theorem State.setList_ctl (cs : List Claim) : (s.setList cs).ctl = s.ctl := rfl
@[simp] theorem State.setList_link (cs : List Claim) : (s.setList cs).link = s.link := rfl
@[simp] theorem State.setList_config (cs : List Claim) : (s.setList cs).config = s.config := rfl
@[simp] theorem State.setList_readerRx (cs : List Claim) : (s.setList cs).readerRx = s.readerRx := rfl
@[simp] theorem State.setList_extPin (cs : List Claim) : (s.setList cs).extPin = s.extPin := rfl
@[simp] theorem State.setList_resetPin (cs : List Claim) : (s.setList cs).resetPin = s.resetPin := rfl
@[simp] theorem State.setList_supplyLost (cs : List Claim) : (s.setList cs).supplyLost = s.supplyLost := rfl
@[simp] theorem State.setList_now (cs : List Claim) : (s.setList cs).now = s.now := rfl
@[simp] theorem State.setList_pending (cs : List Claim) : (s.setList cs).pending = s.pending := rfl
@[simp] theorem State.setList_freeCount (cs : List Claim) : (s.setList cs).freeCount = s.freeCount := rfl

/-! ### setPeers -/

@[simp] theorem State.setPeers_route (p : PeerTable) : (s.setPeers p).route = s.route := rfl
@[simp] theorem State.setPeers_pos (p : PeerTable) : (s.setPeers p).pos = s.pos := rfl
@[simp] theorem State.setPeers_claims (p : PeerTable) : (s.setPeers p).claims = s.claims := rfl
@[simp] theorem State.setPeers_peers (p : PeerTable) : (s.setPeers p).peers = p := rfl
@[simp] theorem State.setPeers_auth (p : PeerTable) : (s.setPeers p).auth = s.auth := rfl
@[simp] theorem State.setPeers_beacon (p : PeerTable) : (s.setPeers p).beacon = s.beacon := rfl
@[simp] theorem State.setPeers_ctl (p : PeerTable) : (s.setPeers p).ctl = s.ctl := rfl
@[simp] theorem State.setPeers_link (p : PeerTable) : (s.setPeers p).link = s.link := rfl
@[simp] theorem State.setPeers_config (p : PeerTable) : (s.setPeers p).config = s.config := rfl
@[simp] theorem State.setPeers_readerRx (p : PeerTable) : (s.setPeers p).readerRx = s.readerRx := rfl
@[simp] theorem State.setPeers_extPin (p : PeerTable) : (s.setPeers p).extPin = s.extPin := rfl
@[simp] theorem State.setPeers_resetPin (p : PeerTable) : (s.setPeers p).resetPin = s.resetPin := rfl
@[simp] theorem State.setPeers_supplyLost (p : PeerTable) : (s.setPeers p).supplyLost = s.supplyLost := rfl
@[simp] theorem State.setPeers_now (p : PeerTable) : (s.setPeers p).now = s.now := rfl
@[simp] theorem State.setPeers_pending (p : PeerTable) : (s.setPeers p).pending = s.pending := rfl
@[simp] theorem State.setPeers_freeCount (p : PeerTable) : (s.setPeers p).freeCount = s.freeCount := rfl

/-! ### setAuth -/

@[simp] theorem State.setAuth_route (a : AuthorityUnit) : (s.setAuth a).route = s.route := rfl
@[simp] theorem State.setAuth_pos (a : AuthorityUnit) : (s.setAuth a).pos = s.pos := rfl
@[simp] theorem State.setAuth_claims (a : AuthorityUnit) : (s.setAuth a).claims = s.claims := rfl
@[simp] theorem State.setAuth_peers (a : AuthorityUnit) : (s.setAuth a).peers = s.peers := rfl
@[simp] theorem State.setAuth_auth (a : AuthorityUnit) : (s.setAuth a).auth = a := rfl
@[simp] theorem State.setAuth_beacon (a : AuthorityUnit) : (s.setAuth a).beacon = s.beacon := rfl
@[simp] theorem State.setAuth_ctl (a : AuthorityUnit) : (s.setAuth a).ctl = s.ctl := rfl
@[simp] theorem State.setAuth_link (a : AuthorityUnit) : (s.setAuth a).link = s.link := rfl
@[simp] theorem State.setAuth_config (a : AuthorityUnit) : (s.setAuth a).config = s.config := rfl
@[simp] theorem State.setAuth_readerRx (a : AuthorityUnit) : (s.setAuth a).readerRx = s.readerRx := rfl
@[simp] theorem State.setAuth_extPin (a : AuthorityUnit) : (s.setAuth a).extPin = s.extPin := rfl
@[simp] theorem State.setAuth_resetPin (a : AuthorityUnit) : (s.setAuth a).resetPin = s.resetPin := rfl
@[simp] theorem State.setAuth_supplyLost (a : AuthorityUnit) : (s.setAuth a).supplyLost = s.supplyLost := rfl
@[simp] theorem State.setAuth_now (a : AuthorityUnit) : (s.setAuth a).now = s.now := rfl
@[simp] theorem State.setAuth_pending (a : AuthorityUnit) : (s.setAuth a).pending = s.pending := rfl
@[simp] theorem State.setAuth_freeCount (a : AuthorityUnit) : (s.setAuth a).freeCount = s.freeCount := rfl

/-! ### setBeacon -/

@[simp] theorem State.setBeacon_route (b : BeaconUnit) : (s.setBeacon b).route = s.route := rfl
@[simp] theorem State.setBeacon_pos (b : BeaconUnit) : (s.setBeacon b).pos = s.pos := rfl
@[simp] theorem State.setBeacon_claims (b : BeaconUnit) : (s.setBeacon b).claims = s.claims := rfl
@[simp] theorem State.setBeacon_peers (b : BeaconUnit) : (s.setBeacon b).peers = s.peers := rfl
@[simp] theorem State.setBeacon_auth (b : BeaconUnit) : (s.setBeacon b).auth = s.auth := rfl
@[simp] theorem State.setBeacon_beacon (b : BeaconUnit) : (s.setBeacon b).beacon = b := rfl
@[simp] theorem State.setBeacon_ctl (b : BeaconUnit) : (s.setBeacon b).ctl = s.ctl := rfl
@[simp] theorem State.setBeacon_link (b : BeaconUnit) : (s.setBeacon b).link = s.link := rfl
@[simp] theorem State.setBeacon_config (b : BeaconUnit) : (s.setBeacon b).config = s.config := rfl
@[simp] theorem State.setBeacon_readerRx (b : BeaconUnit) : (s.setBeacon b).readerRx = s.readerRx := rfl
@[simp] theorem State.setBeacon_extPin (b : BeaconUnit) : (s.setBeacon b).extPin = s.extPin := rfl
@[simp] theorem State.setBeacon_resetPin (b : BeaconUnit) : (s.setBeacon b).resetPin = s.resetPin := rfl
@[simp] theorem State.setBeacon_supplyLost (b : BeaconUnit) : (s.setBeacon b).supplyLost = s.supplyLost := rfl
@[simp] theorem State.setBeacon_now (b : BeaconUnit) : (s.setBeacon b).now = s.now := rfl
@[simp] theorem State.setBeacon_pending (b : BeaconUnit) : (s.setBeacon b).pending = s.pending := rfl
@[simp] theorem State.setBeacon_freeCount (b : BeaconUnit) : (s.setBeacon b).freeCount = s.freeCount := rfl

/-! ### setCtl -/

@[simp] theorem State.setCtl_route (m : ModeController) : (s.setCtl m).route = s.route := rfl
@[simp] theorem State.setCtl_pos (m : ModeController) : (s.setCtl m).pos = s.pos := rfl
@[simp] theorem State.setCtl_claims (m : ModeController) : (s.setCtl m).claims = s.claims := rfl
@[simp] theorem State.setCtl_peers (m : ModeController) : (s.setCtl m).peers = s.peers := rfl
@[simp] theorem State.setCtl_auth (m : ModeController) : (s.setCtl m).auth = s.auth := rfl
@[simp] theorem State.setCtl_beacon (m : ModeController) : (s.setCtl m).beacon = s.beacon := rfl
@[simp] theorem State.setCtl_ctl (m : ModeController) : (s.setCtl m).ctl = m := rfl
@[simp] theorem State.setCtl_link (m : ModeController) : (s.setCtl m).link = s.link := rfl
@[simp] theorem State.setCtl_config (m : ModeController) : (s.setCtl m).config = s.config := rfl
@[simp] theorem State.setCtl_readerRx (m : ModeController) : (s.setCtl m).readerRx = s.readerRx := rfl
@[simp] theorem State.setCtl_extPin (m : ModeController) : (s.setCtl m).extPin = s.extPin := rfl
@[simp] theorem State.setCtl_resetPin (m : ModeController) : (s.setCtl m).resetPin = s.resetPin := rfl
@[simp] theorem State.setCtl_supplyLost (m : ModeController) : (s.setCtl m).supplyLost = s.supplyLost := rfl
@[simp] theorem State.setCtl_now (m : ModeController) : (s.setCtl m).now = s.now := rfl
@[simp] theorem State.setCtl_pending (m : ModeController) : (s.setCtl m).pending = s.pending := rfl
@[simp] theorem State.setCtl_freeCount (m : ModeController) : (s.setCtl m).freeCount = s.freeCount := rfl

/-! ### setLink -/

@[simp] theorem State.setLink_route (l : DriveLink) : (s.setLink l).route = s.route := rfl
@[simp] theorem State.setLink_pos (l : DriveLink) : (s.setLink l).pos = s.pos := rfl
@[simp] theorem State.setLink_claims (l : DriveLink) : (s.setLink l).claims = s.claims := rfl
@[simp] theorem State.setLink_peers (l : DriveLink) : (s.setLink l).peers = s.peers := rfl
@[simp] theorem State.setLink_auth (l : DriveLink) : (s.setLink l).auth = s.auth := rfl
@[simp] theorem State.setLink_beacon (l : DriveLink) : (s.setLink l).beacon = s.beacon := rfl
@[simp] theorem State.setLink_ctl (l : DriveLink) : (s.setLink l).ctl = s.ctl := rfl
@[simp] theorem State.setLink_link (l : DriveLink) : (s.setLink l).link = l := rfl
@[simp] theorem State.setLink_config (l : DriveLink) : (s.setLink l).config = s.config := rfl
@[simp] theorem State.setLink_readerRx (l : DriveLink) : (s.setLink l).readerRx = s.readerRx := rfl
@[simp] theorem State.setLink_extPin (l : DriveLink) : (s.setLink l).extPin = s.extPin := rfl
@[simp] theorem State.setLink_resetPin (l : DriveLink) : (s.setLink l).resetPin = s.resetPin := rfl
@[simp] theorem State.setLink_supplyLost (l : DriveLink) : (s.setLink l).supplyLost = s.supplyLost := rfl
@[simp] theorem State.setLink_now (l : DriveLink) : (s.setLink l).now = s.now := rfl
@[simp] theorem State.setLink_pending (l : DriveLink) : (s.setLink l).pending = s.pending := rfl
@[simp] theorem State.setLink_freeCount (l : DriveLink) : (s.setLink l).freeCount = s.freeCount := rfl

/-! ### setConfig -/

@[simp] theorem State.setConfig_route (c : ConfigLoader) : (s.setConfig c).route = s.route := rfl
@[simp] theorem State.setConfig_pos (c : ConfigLoader) : (s.setConfig c).pos = s.pos := rfl
@[simp] theorem State.setConfig_claims (c : ConfigLoader) : (s.setConfig c).claims = s.claims := rfl
@[simp] theorem State.setConfig_peers (c : ConfigLoader) : (s.setConfig c).peers = s.peers := rfl
@[simp] theorem State.setConfig_auth (c : ConfigLoader) : (s.setConfig c).auth = s.auth := rfl
@[simp] theorem State.setConfig_beacon (c : ConfigLoader) : (s.setConfig c).beacon = s.beacon := rfl
@[simp] theorem State.setConfig_ctl (c : ConfigLoader) : (s.setConfig c).ctl = s.ctl := rfl
@[simp] theorem State.setConfig_link (c : ConfigLoader) : (s.setConfig c).link = s.link := rfl
@[simp] theorem State.setConfig_config (c : ConfigLoader) : (s.setConfig c).config = c := rfl
@[simp] theorem State.setConfig_readerRx (c : ConfigLoader) : (s.setConfig c).readerRx = s.readerRx := rfl
@[simp] theorem State.setConfig_extPin (c : ConfigLoader) : (s.setConfig c).extPin = s.extPin := rfl
@[simp] theorem State.setConfig_resetPin (c : ConfigLoader) : (s.setConfig c).resetPin = s.resetPin := rfl
@[simp] theorem State.setConfig_supplyLost (c : ConfigLoader) :
    (s.setConfig c).supplyLost = s.supplyLost := rfl
@[simp] theorem State.setConfig_now (c : ConfigLoader) : (s.setConfig c).now = s.now := rfl
@[simp] theorem State.setConfig_pending (c : ConfigLoader) : (s.setConfig c).pending = s.pending := rfl
@[simp] theorem State.setConfig_freeCount (c : ConfigLoader) : (s.setConfig c).freeCount = s.freeCount := rfl

/-! ### count -/

@[simp] theorem State.count_route (k : Counter) : (s.count k).route = s.route := rfl
@[simp] theorem State.count_pos (k : Counter) : (s.count k).pos = s.pos := rfl
@[simp] theorem State.count_claims (k : Counter) : (s.count k).claims = s.claims := rfl
@[simp] theorem State.count_peers (k : Counter) : (s.count k).peers = s.peers := rfl
@[simp] theorem State.count_auth (k : Counter) : (s.count k).auth = s.auth := rfl
@[simp] theorem State.count_beacon (k : Counter) : (s.count k).beacon = s.beacon := rfl
@[simp] theorem State.count_ctl (k : Counter) : (s.count k).ctl = s.ctl := rfl
@[simp] theorem State.count_link (k : Counter) :
    (s.count k).link = { s.link with counters := s.link.counters.bump k } := rfl
@[simp] theorem State.count_config (k : Counter) : (s.count k).config = s.config := rfl
@[simp] theorem State.count_readerRx (k : Counter) : (s.count k).readerRx = s.readerRx := rfl
@[simp] theorem State.count_extPin (k : Counter) : (s.count k).extPin = s.extPin := rfl
@[simp] theorem State.count_resetPin (k : Counter) : (s.count k).resetPin = s.resetPin := rfl
@[simp] theorem State.count_supplyLost (k : Counter) : (s.count k).supplyLost = s.supplyLost := rfl
@[simp] theorem State.count_now (k : Counter) : (s.count k).now = s.now := rfl
@[simp] theorem State.count_pending (k : Counter) : (s.count k).pending = s.pending := rfl
@[simp] theorem State.count_freeCount (k : Counter) : (s.count k).freeCount = s.freeCount := rfl

/-! ### latch -/

@[simp] theorem State.latch_route (f : Flag) : (s.latch f).route = s.route := rfl
@[simp] theorem State.latch_pos (f : Flag) : (s.latch f).pos = s.pos := rfl
@[simp] theorem State.latch_claims (f : Flag) : (s.latch f).claims = s.claims := rfl
@[simp] theorem State.latch_peers (f : Flag) : (s.latch f).peers = s.peers := rfl
@[simp] theorem State.latch_auth (f : Flag) : (s.latch f).auth = s.auth := rfl
@[simp] theorem State.latch_beacon (f : Flag) : (s.latch f).beacon = s.beacon := rfl
@[simp] theorem State.latch_ctl (f : Flag) : (s.latch f).ctl = s.ctl := rfl
@[simp] theorem State.latch_link (f : Flag) :
    (s.latch f).link = { s.link with latched := s.link.latched.set f } := rfl
@[simp] theorem State.latch_config (f : Flag) : (s.latch f).config = s.config := rfl
@[simp] theorem State.latch_readerRx (f : Flag) : (s.latch f).readerRx = s.readerRx := rfl
@[simp] theorem State.latch_extPin (f : Flag) : (s.latch f).extPin = s.extPin := rfl
@[simp] theorem State.latch_resetPin (f : Flag) : (s.latch f).resetPin = s.resetPin := rfl
@[simp] theorem State.latch_supplyLost (f : Flag) : (s.latch f).supplyLost = s.supplyLost := rfl
@[simp] theorem State.latch_now (f : Flag) : (s.latch f).now = s.now := rfl
@[simp] theorem State.latch_pending (f : Flag) : (s.latch f).pending = s.pending := rfl
@[simp] theorem State.latch_freeCount (f : Flag) : (s.latch f).freeCount = s.freeCount := rfl

/-! ### setMode -/

@[simp] theorem State.setMode_route (m : Mode) : (s.setMode m).route = s.route := rfl
@[simp] theorem State.setMode_pos (m : Mode) : (s.setMode m).pos = s.pos := rfl
@[simp] theorem State.setMode_claims (m : Mode) : (s.setMode m).claims = s.claims := rfl
@[simp] theorem State.setMode_peers (m : Mode) : (s.setMode m).peers = s.peers := rfl
@[simp] theorem State.setMode_auth (m : Mode) : (s.setMode m).auth = s.auth := rfl
@[simp] theorem State.setMode_beacon (m : Mode) : (s.setMode m).beacon = s.beacon := rfl
@[simp] theorem State.setMode_ctl (m : Mode) :
    (s.setMode m).ctl = { s.ctl with mode := m, line := if m = .serving then .released else .asserted } := rfl
@[simp] theorem State.setMode_link (m : Mode) : (s.setMode m).link = s.link := rfl
@[simp] theorem State.setMode_config (m : Mode) : (s.setMode m).config = s.config := rfl
@[simp] theorem State.setMode_readerRx (m : Mode) : (s.setMode m).readerRx = s.readerRx := rfl
@[simp] theorem State.setMode_extPin (m : Mode) : (s.setMode m).extPin = s.extPin := rfl
@[simp] theorem State.setMode_resetPin (m : Mode) : (s.setMode m).resetPin = s.resetPin := rfl
@[simp] theorem State.setMode_supplyLost (m : Mode) : (s.setMode m).supplyLost = s.supplyLost := rfl
@[simp] theorem State.setMode_now (m : Mode) : (s.setMode m).now = s.now := rfl
@[simp] theorem State.setMode_pending (m : Mode) : (s.setMode m).pending = s.pending := rfl
@[simp] theorem State.setMode_freeCount (m : Mode) : (s.setMode m).freeCount = s.freeCount := rfl

/-! ### putSlot -/

@[simp] theorem State.putSlot_route (k : Nat) (o : Option PeerEntry) : (s.putSlot k o).route = s.route := rfl
@[simp] theorem State.putSlot_pos (k : Nat) (o : Option PeerEntry) : (s.putSlot k o).pos = s.pos := rfl
@[simp] theorem State.putSlot_claims (k : Nat) (o : Option PeerEntry) :
    (s.putSlot k o).claims = s.claims := rfl
@[simp] theorem State.putSlot_peers (k : Nat) (o : Option PeerEntry) :
    (s.putSlot k o).peers = { s.peers with slots := s.peers.slots.set k o } := rfl
@[simp] theorem State.putSlot_auth (k : Nat) (o : Option PeerEntry) : (s.putSlot k o).auth = s.auth := rfl
@[simp] theorem State.putSlot_beacon (k : Nat) (o : Option PeerEntry) :
    (s.putSlot k o).beacon = s.beacon := rfl
@[simp] theorem State.putSlot_ctl (k : Nat) (o : Option PeerEntry) : (s.putSlot k o).ctl = s.ctl := rfl
@[simp] theorem State.putSlot_link (k : Nat) (o : Option PeerEntry) : (s.putSlot k o).link = s.link := rfl
@[simp] theorem State.putSlot_config (k : Nat) (o : Option PeerEntry) :
    (s.putSlot k o).config = s.config := rfl
@[simp] theorem State.putSlot_readerRx (k : Nat) (o : Option PeerEntry) :
    (s.putSlot k o).readerRx = s.readerRx := rfl
@[simp] theorem State.putSlot_extPin (k : Nat) (o : Option PeerEntry) :
    (s.putSlot k o).extPin = s.extPin := rfl
@[simp] theorem State.putSlot_resetPin (k : Nat) (o : Option PeerEntry) :
    (s.putSlot k o).resetPin = s.resetPin := rfl
@[simp] theorem State.putSlot_supplyLost (k : Nat) (o : Option PeerEntry) :
    (s.putSlot k o).supplyLost = s.supplyLost := rfl
@[simp] theorem State.putSlot_now (k : Nat) (o : Option PeerEntry) : (s.putSlot k o).now = s.now := rfl
@[simp] theorem State.putSlot_pending (k : Nat) (o : Option PeerEntry) :
    (s.putSlot k o).pending = s.pending := rfl
@[simp] theorem State.putSlot_freeCount (k : Nat) (o : Option PeerEntry) :
    (s.putSlot k o).freeCount = s.freeCount := rfl

/-! ### addClaim -/

@[simp] theorem State.addClaim_route (c : Claim) : (s.addClaim c).route = s.route := rfl
@[simp] theorem State.addClaim_pos (c : Claim) : (s.addClaim c).pos = s.pos := rfl
@[simp] theorem State.addClaim_claims (c : Claim) :
    (s.addClaim c).claims = { s.claims with
      list := s.claims.list ++ [c], nextIdentity := s.claims.nextIdentity + 1 } := rfl
@[simp] theorem State.addClaim_peers (c : Claim) : (s.addClaim c).peers = s.peers := rfl
@[simp] theorem State.addClaim_auth (c : Claim) : (s.addClaim c).auth = s.auth := rfl
@[simp] theorem State.addClaim_beacon (c : Claim) : (s.addClaim c).beacon = s.beacon := rfl
@[simp] theorem State.addClaim_ctl (c : Claim) : (s.addClaim c).ctl = s.ctl := rfl
@[simp] theorem State.addClaim_link (c : Claim) : (s.addClaim c).link = s.link := rfl
@[simp] theorem State.addClaim_config (c : Claim) : (s.addClaim c).config = s.config := rfl
@[simp] theorem State.addClaim_readerRx (c : Claim) : (s.addClaim c).readerRx = s.readerRx := rfl
@[simp] theorem State.addClaim_extPin (c : Claim) : (s.addClaim c).extPin = s.extPin := rfl
@[simp] theorem State.addClaim_resetPin (c : Claim) : (s.addClaim c).resetPin = s.resetPin := rfl
@[simp] theorem State.addClaim_supplyLost (c : Claim) : (s.addClaim c).supplyLost = s.supplyLost := rfl
@[simp] theorem State.addClaim_now (c : Claim) : (s.addClaim c).now = s.now := rfl
@[simp] theorem State.addClaim_pending (c : Claim) : (s.addClaim c).pending = s.pending := rfl
@[simp] theorem State.addClaim_freeCount (c : Claim) : (s.addClaim c).freeCount = s.freeCount := rfl

/-! ### emptyOutstanding -/

@[simp] theorem State.emptyOutstanding_route : (s.emptyOutstanding).route = s.route := rfl
@[simp] theorem State.emptyOutstanding_pos : (s.emptyOutstanding).pos = s.pos := rfl
@[simp] theorem State.emptyOutstanding_claims : (s.emptyOutstanding).claims = s.claims := rfl
@[simp] theorem State.emptyOutstanding_peers : (s.emptyOutstanding).peers = s.peers := rfl
@[simp] theorem State.emptyOutstanding_auth : (s.emptyOutstanding).auth = s.auth := rfl
@[simp] theorem State.emptyOutstanding_beacon : (s.emptyOutstanding).beacon = s.beacon := rfl
@[simp] theorem State.emptyOutstanding_ctl : (s.emptyOutstanding).ctl = s.ctl := rfl
@[simp] theorem State.emptyOutstanding_link :
    (s.emptyOutstanding).link = { s.link with outstanding := [], pendingIssue := false } := rfl
@[simp] theorem State.emptyOutstanding_config : (s.emptyOutstanding).config = s.config := rfl
@[simp] theorem State.emptyOutstanding_readerRx : (s.emptyOutstanding).readerRx = s.readerRx := rfl
@[simp] theorem State.emptyOutstanding_extPin : (s.emptyOutstanding).extPin = s.extPin := rfl
@[simp] theorem State.emptyOutstanding_resetPin : (s.emptyOutstanding).resetPin = s.resetPin := rfl
@[simp] theorem State.emptyOutstanding_supplyLost : (s.emptyOutstanding).supplyLost = s.supplyLost := rfl
@[simp] theorem State.emptyOutstanding_now : (s.emptyOutstanding).now = s.now := rfl
@[simp] theorem State.emptyOutstanding_pending : (s.emptyOutstanding).pending = s.pending := rfl
@[simp] theorem State.emptyOutstanding_freeCount : (s.emptyOutstanding).freeCount = s.freeCount := rfl

/-! ### clearInFlight -/

@[simp] theorem State.clearInFlight_route : (s.clearInFlight).route = s.route := rfl
@[simp] theorem State.clearInFlight_pos : (s.clearInFlight).pos = s.pos := rfl
@[simp] theorem State.clearInFlight_claims : (s.clearInFlight).claims = s.claims := rfl
@[simp] theorem State.clearInFlight_peers : (s.clearInFlight).peers = s.peers := rfl
@[simp] theorem State.clearInFlight_auth : (s.clearInFlight).auth = s.auth := rfl
@[simp] theorem State.clearInFlight_beacon :
    (s.clearInFlight).beacon = { s.beacon with inFlight := none } := rfl
@[simp] theorem State.clearInFlight_ctl : (s.clearInFlight).ctl = s.ctl := rfl
@[simp] theorem State.clearInFlight_link : (s.clearInFlight).link = s.link := rfl
@[simp] theorem State.clearInFlight_config : (s.clearInFlight).config = s.config := rfl
@[simp] theorem State.clearInFlight_readerRx : (s.clearInFlight).readerRx = s.readerRx := rfl
@[simp] theorem State.clearInFlight_extPin : (s.clearInFlight).extPin = s.extPin := rfl
@[simp] theorem State.clearInFlight_resetPin : (s.clearInFlight).resetPin = s.resetPin := rfl
@[simp] theorem State.clearInFlight_supplyLost : (s.clearInFlight).supplyLost = s.supplyLost := rfl
@[simp] theorem State.clearInFlight_now : (s.clearInFlight).now = s.now := rfl
@[simp] theorem State.clearInFlight_pending : (s.clearInFlight).pending = s.pending := rfl
@[simp] theorem State.clearInFlight_freeCount : (s.clearInFlight).freeCount = s.freeCount := rfl

/-! ### dropTentative -/

@[simp] theorem State.dropTentative_route : (s.dropTentative).route = s.route := rfl
@[simp] theorem State.dropTentative_pos : (s.dropTentative).pos = s.pos := rfl
@[simp] theorem State.dropTentative_claims :
    (s.dropTentative).claims = { s.claims with
      list := s.claims.list.filter fun c => c.state != .tentative } := rfl
@[simp] theorem State.dropTentative_peers : (s.dropTentative).peers = s.peers := rfl
@[simp] theorem State.dropTentative_auth : (s.dropTentative).auth = s.auth := rfl
@[simp] theorem State.dropTentative_beacon : (s.dropTentative).beacon = s.beacon := rfl
@[simp] theorem State.dropTentative_ctl : (s.dropTentative).ctl = s.ctl := rfl
@[simp] theorem State.dropTentative_link : (s.dropTentative).link = s.link := rfl
@[simp] theorem State.dropTentative_config : (s.dropTentative).config = s.config := rfl
@[simp] theorem State.dropTentative_readerRx : (s.dropTentative).readerRx = s.readerRx := rfl
@[simp] theorem State.dropTentative_extPin : (s.dropTentative).extPin = s.extPin := rfl
@[simp] theorem State.dropTentative_resetPin : (s.dropTentative).resetPin = s.resetPin := rfl
@[simp] theorem State.dropTentative_supplyLost : (s.dropTentative).supplyLost = s.supplyLost := rfl
@[simp] theorem State.dropTentative_now : (s.dropTentative).now = s.now := rfl
@[simp] theorem State.dropTentative_pending : (s.dropTentative).pending = s.pending := rfl
@[simp] theorem State.dropTentative_freeCount : (s.dropTentative).freeCount = s.freeCount := rfl

/-! ### dropUnoccupied -/

@[simp] theorem State.dropUnoccupied_route : (s.dropUnoccupied).route = s.route := rfl
@[simp] theorem State.dropUnoccupied_pos : (s.dropUnoccupied).pos = s.pos := rfl
@[simp] theorem State.dropUnoccupied_claims :
    (s.dropUnoccupied).claims = { s.claims with
      list := s.claims.list.filter fun c => c.state == .occupied } := rfl
@[simp] theorem State.dropUnoccupied_peers : (s.dropUnoccupied).peers = s.peers := rfl
@[simp] theorem State.dropUnoccupied_auth : (s.dropUnoccupied).auth = s.auth := rfl
@[simp] theorem State.dropUnoccupied_beacon : (s.dropUnoccupied).beacon = s.beacon := rfl
@[simp] theorem State.dropUnoccupied_ctl : (s.dropUnoccupied).ctl = s.ctl := rfl
@[simp] theorem State.dropUnoccupied_link : (s.dropUnoccupied).link = s.link := rfl
@[simp] theorem State.dropUnoccupied_config : (s.dropUnoccupied).config = s.config := rfl
@[simp] theorem State.dropUnoccupied_readerRx : (s.dropUnoccupied).readerRx = s.readerRx := rfl
@[simp] theorem State.dropUnoccupied_extPin : (s.dropUnoccupied).extPin = s.extPin := rfl
@[simp] theorem State.dropUnoccupied_resetPin : (s.dropUnoccupied).resetPin = s.resetPin := rfl
@[simp] theorem State.dropUnoccupied_supplyLost : (s.dropUnoccupied).supplyLost = s.supplyLost := rfl
@[simp] theorem State.dropUnoccupied_now : (s.dropUnoccupied).now = s.now := rfl
@[simp] theorem State.dropUnoccupied_pending : (s.dropUnoccupied).pending = s.pending := rfl
@[simp] theorem State.dropUnoccupied_freeCount : (s.dropUnoccupied).freeCount = s.freeCount := rfl

/-! ### dropHeld -/

@[simp] theorem State.dropHeld_route : (s.dropHeld).route = s.route := rfl
@[simp] theorem State.dropHeld_pos : (s.dropHeld).pos = s.pos := rfl
@[simp] theorem State.dropHeld_claims :
    (s.dropHeld).claims = { s.claims with
      list := s.claims.list.filter fun c => c.state != .held } := rfl
@[simp] theorem State.dropHeld_peers : (s.dropHeld).peers = s.peers := rfl
@[simp] theorem State.dropHeld_auth : (s.dropHeld).auth = s.auth := rfl
@[simp] theorem State.dropHeld_beacon : (s.dropHeld).beacon = s.beacon := rfl
@[simp] theorem State.dropHeld_ctl : (s.dropHeld).ctl = s.ctl := rfl
@[simp] theorem State.dropHeld_link : (s.dropHeld).link = s.link := rfl
@[simp] theorem State.dropHeld_config : (s.dropHeld).config = s.config := rfl
@[simp] theorem State.dropHeld_readerRx : (s.dropHeld).readerRx = s.readerRx := rfl
@[simp] theorem State.dropHeld_extPin : (s.dropHeld).extPin = s.extPin := rfl
@[simp] theorem State.dropHeld_resetPin : (s.dropHeld).resetPin = s.resetPin := rfl
@[simp] theorem State.dropHeld_supplyLost : (s.dropHeld).supplyLost = s.supplyLost := rfl
@[simp] theorem State.dropHeld_now : (s.dropHeld).now = s.now := rfl
@[simp] theorem State.dropHeld_pending : (s.dropHeld).pending = s.pending := rfl
@[simp] theorem State.dropHeld_freeCount : (s.dropHeld).freeCount = s.freeCount := rfl

/-! ### completeNotices -/

@[simp] theorem State.completeNotices_route : (s.completeNotices).route = s.route := rfl
@[simp] theorem State.completeNotices_pos : (s.completeNotices).pos = s.pos := rfl
@[simp] theorem State.completeNotices_claims : (s.completeNotices).claims = s.claims := rfl
@[simp] theorem State.completeNotices_peers : (s.completeNotices).peers = s.peers := rfl
@[simp] theorem State.completeNotices_auth : (s.completeNotices).auth = s.auth := rfl
@[simp] theorem State.completeNotices_beacon : (s.completeNotices).beacon = s.beacon := rfl
@[simp] theorem State.completeNotices_ctl : (s.completeNotices).ctl = s.ctl := rfl
@[simp] theorem State.completeNotices_link :
    (s.completeNotices).link = { s.link with
      outgoing := s.link.outgoing.map (·.complete s.ctl.mode) } := rfl
@[simp] theorem State.completeNotices_config : (s.completeNotices).config = s.config := rfl
@[simp] theorem State.completeNotices_readerRx : (s.completeNotices).readerRx = s.readerRx := rfl
@[simp] theorem State.completeNotices_extPin : (s.completeNotices).extPin = s.extPin := rfl
@[simp] theorem State.completeNotices_resetPin : (s.completeNotices).resetPin = s.resetPin := rfl
@[simp] theorem State.completeNotices_supplyLost : (s.completeNotices).supplyLost = s.supplyLost := rfl
@[simp] theorem State.completeNotices_now : (s.completeNotices).now = s.now := rfl
@[simp] theorem State.completeNotices_pending : (s.completeNotices).pending = s.pending := rfl
@[simp] theorem State.completeNotices_freeCount : (s.completeNotices).freeCount = s.freeCount := rfl

end Sys2Proof.Machine
end

