-- ==== Sys2Proof/Laws/Ops.lean ====
section
/-!
SUPPORT. For each shared operation, one lemma that says everything it can do to the state: the end of
an event, the claims, the raising of a stop cause, the link rate and the building of a beacon.
-/

namespace Sys2Proof.Machine

/-! ### Notices, issue and transmitter -/

/-- A notice joins the outgoing order, or NOTICE_OVERFLOW is latched while 8 wait (R164). -/
theorem State.queueNotice_cases (s : State) (n : Notice) :
    (s.link.notices.length < 8
        ∧ s.queueNotice n = s.setLink { s.link with outgoing := s.link.outgoing ++ [.notice n] })
      ∨ (8 ≤ s.link.notices.length ∧ s.queueNotice n = s.latch .noticeOverflow) := by
  unfold State.queueNotice
  split
  · exact .inl ⟨‹_›, rfl⟩
  · exact .inr ⟨Nat.le_of_not_lt ‹_›, rfl⟩

/-- A notice changes only the Drive Link Unit. -/
theorem State.queueNotice_link (s : State) (n : Notice) : ∃ l, s.queueNotice n = s.setLink l := by
  obtain ⟨-, h⟩ | ⟨-, h⟩ := s.queueNotice_cases n
  · exact ⟨_, h⟩
  · exact ⟨_, h⟩

/-- The transmitter stays as it is, or takes the oldest item (R159). -/
theorem State.transmit_cases (s : State) :
    s.transmit = s ∨ ∃ x xs, s.link.transmitting = none ∧ s.link.outgoing = x :: xs
      ∧ s.link.restartDue = false ∧ s.config.pendingRate = none
      ∧ s.transmit = s.setLink { s.link with
          transmitting := some x
          outgoing := xs
          lastSent := match x with | .authority m => some m.seq | _ => s.link.lastSent } := by
  unfold State.transmit
  split
  · rename_i x xs ht ho
    split
    · exact .inl rfl
    · rename_i hn
      refine .inr ⟨x, xs, ht, ho, ?_, ?_, rfl⟩
      · cases h : s.link.restartDue <;> simp_all
      · cases h : s.config.pendingRate <;> simp_all
  · exact .inl rfl

/-- The transmitter changes only the Drive Link Unit. -/
theorem State.transmit_link (s : State) : ∃ l, s.transmit = s.setLink l := by
  obtain h | ⟨x, xs, -, -, -, -, h⟩ := s.transmit_cases
  · exact ⟨s.link, h⟩
  · exact ⟨_, h⟩

/-- What is sent, and in which order, does not depend on when the transmitter takes it (R159). -/
@[simp] theorem State.transmit_order (s : State) : s.transmit.link.order = s.link.order := by
  obtain h | ⟨x, xs, ht, ho, -, -, h⟩ := s.transmit_cases
  · rw [h]
  · rw [h]; simp [DriveLink.order, ht, ho]

/-- The withdrawal takes away the last item when it is an AUTHORITY message, with its outstanding entry
(R165). -/
theorem DriveLink.withdraw_cases (l : DriveLink) :
    (∃ m, l.outgoing.getLast? = some (.authority m) ∧ l.withdraw = { l with
        outgoing := l.outgoing.dropLast
        outstanding := l.outstanding.filter fun o => o.seq != m.seq })
      ∨ ((∀ m, l.outgoing.getLast? ≠ some (.authority m)) ∧ l.withdraw = l) := by
  unfold DriveLink.withdraw
  split
  · exact .inl ⟨_, ‹_›, rfl⟩
  · rename_i h; exact .inr ⟨fun m hm => h m hm, rfl⟩

/-- An issue changes only the Drive Link Unit (R165, R166). -/
theorem State.issueAuthority_link (s : State) : ∃ l, s.issueAuthority = s.setLink l := by
  unfold State.issueAuthority
  dsimp only
  split
  · split
    · exact ⟨_, rfl⟩
    · exact ⟨_, rfl⟩
  · exact ⟨_, rfl⟩

/-- The end of an event changes only the Drive Link Unit. -/
theorem Work.close_link (w : Work) : ∃ l, w.close = w.s.setLink l := by
  unfold Work.close
  split
  · obtain ⟨l, h⟩ := w.s.issueAuthority_link
    rw [h]; exact ⟨_, rfl⟩
  · exact ⟨_, rfl⟩

/-- An event, from its work to the transmitter: what is left of the state outside the Drive Link Unit
is what its work and the one recomputation leave. -/
theorem State.event_link (s : State) (f : Work → Work) :
    ∃ l, s.event f = ((f ⟨s, false, false, false, false, false, true⟩).settle s).s.setLink l := by
  unfold State.event
  obtain ⟨l, h⟩ := ((f ⟨s, false, false, false, false, false, true⟩).settle s).close_link
  obtain ⟨l', h'⟩ := (((f ⟨s, false, false, false, false, false, true⟩).settle s).close).transmit_link
  exact ⟨l', by rw [h', h]; rfl⟩

/-! ### Claims -/

/-- What claiming ahead makes: a TENTATIVE claim on the entry after the frontmost claim's (R44, R45). -/
theorem State.nextToClaim_mode {s : State} {x : Nat × RouteEntry} (h : s.nextToClaim = some x) :
    s.ctl.mode = .serving := by
  unfold State.nextToClaim at h
  split at h
  · split at h
    · split at h
      · rename_i hc; exact hc.1
      · cases h
    · cases h
  · cases h

/-- Claiming ahead only adds TENTATIVE claims in front, and only in SERVING (R44, R45). -/
theorem State.claimAheadLoop_spec (n : Nat) (s : State) : ∃ new,
    claimAheadLoop n s = s.setClaims { s.claims with
        list := s.claims.list ++ new, nextIdentity := s.claims.nextIdentity + new.length }
      ∧ (∀ c ∈ new, c.state = .tentative ∧ c.announce = 0 ∧ c.firstAnnounce = none
          ∧ c.heldSince = none ∧ c.yieldTimer = none ∧ c.holdTimer = none)
      ∧ (new ≠ [] → s.ctl.mode = .serving) := by
  induction n generalizing s with
  | zero => exact ⟨[], by simp [claimAheadLoop, State.setClaims], by simp, by simp⟩
  | succ n ih =>
    unfold claimAheadLoop
    cases h : s.nextToClaim with
    | none => exact ⟨[], by simp [State.setClaims], by simp, by simp⟩
    | some x =>
      obtain ⟨new, h1, h2, -⟩ := ih (s.addClaim (s.newClaim x.1 x.2 .tentative 0 none))
      refine ⟨s.newClaim x.1 x.2 .tentative 0 none :: new, ?_, ?_,
        fun _ => State.nextToClaim_mode h⟩
      · simp only [h1]
        simp [State.setClaims, State.addClaim, Nat.add_comm, Nat.add_left_comm]
      · intro c hc
        rcases List.mem_cons.1 hc with rfl | hc
        · simp [State.newClaim]
        · exact h2 c hc

/-- Claiming ahead, in one statement (R44, R45). -/
theorem State.claimAhead_spec (s : State) : ∃ new,
    s.claimAhead = s.setClaims { s.claims with
        list := s.claims.list ++ new, nextIdentity := s.claims.nextIdentity + new.length }
      ∧ (∀ c ∈ new, c.state = .tentative ∧ c.announce = 0 ∧ c.firstAnnounce = none
          ∧ c.heldSince = none ∧ c.yieldTimer = none ∧ c.holdTimer = none)
      ∧ (new ≠ [] → s.ctl.mode = .serving) :=
  State.claimAheadLoop_spec _ s

/-- A claim that promotion may have changed: itself, or the same claim HELD (R49). -/
def Claim.maybePromoted (s : State) (c c' : Claim) : Prop :=
  c' = c ∨ (c.state = .tentative ∧ c' = s.promoted c)

/-- A sweep changes claims one by one, each into itself or the same claim HELD; it leaves the deferral
count or makes it 0 (R49). -/
theorem State.sweep_spec (s : State) (cs : List Claim) (prev : Option Claim) (d : Nat) :
    (s.sweep prev d cs).1.length = cs.length
      ∧ (∀ (k : Nat) (c c' : Claim), cs[k]? = some c → (s.sweep prev d cs).1[k]? = some c' →
          Claim.maybePromoted s c c')
      ∧ ((s.sweep prev d cs).2.2 = false → s.sweep prev d cs = (cs, d, false))
      ∧ ((s.sweep prev d cs).2.2 = true → (s.sweep prev d cs).2.1 = 0) := by
  induction cs generalizing prev d with
  | nil => exact ⟨rfl, by simp, fun _ => rfl, by simp [State.sweep]⟩
  | cons c cs ih =>
    unfold State.sweep
    split
    · rename_i hp
      obtain ⟨h0, h1, h2, h3⟩ := ih (some (s.promoted c)) 0
      refine ⟨by simp [h0], ?_, by simp, fun _ => ?_⟩
      · intro k x x' hx hx'
        cases k with
        | zero =>
          simp only [List.getElem?_cons_zero, Option.some.injEq] at hx hx'
          subst hx hx'
          simp only [State.promotable, Bool.and_eq_true, beq_iff_eq] at hp
          exact .inr ⟨hp.1.1.1.1.1, rfl⟩
        | succ k => exact h1 k x x' (by simpa using hx) (by simpa using hx')
      · cases hr : (s.sweep (some (s.promoted c)) 0 cs).2.2 with
        | true => exact h3 hr
        | false => simp [h2 hr]
    · obtain ⟨h0, h1, h2, h3⟩ := ih (some c) d
      refine ⟨by simp [h0], ?_, fun h => ?_, fun h => h3 h⟩
      · intro k x x' hx hx'
        cases k with
        | zero =>
          simp only [List.getElem?_cons_zero, Option.some.injEq] at hx hx'
          exact .inl (hx'.symm.trans hx)
        | succ k => exact h1 k x x' (by simpa using hx) (by simpa using hx')
      · simp [h2 h]

/-- A promotion of every claim changes only claims and the deferral count (R49). -/
theorem State.promoteAll_claims (s : State) : ∃ cs d,
    s.promoteAll.1 = s.setClaims { s.claims with list := cs, deferral := d }
      ∧ cs.length = s.claims.list.length :=
  ⟨_, _, rfl, (s.sweep_spec s.claims.list none s.claims.deferral).1⟩

/-- An evaluation of promotion changes only the Claim Engine (R48, R49). -/
theorem State.evaluatePromotion_claims (s : State) : ∃ k, s.evaluatePromotion = s.setClaims k := by
  unfold State.evaluatePromotion
  dsimp only
  split
  · obtain ⟨new, h, -⟩ := s.promoteAll.1.claimAhead_spec
    rw [h]; exact ⟨_, rfl⟩
  · exact ⟨_, rfl⟩

/-- The front bound's entry into one live entry changes only the Claim Engine (R51, R52). -/
theorem State.enterEntry_claims (s : State) (i : Nat) (e : RouteEntry) :
    ∃ k, (s.enterEntry i e).1 = s.setClaims k := by
  unfold State.enterEntry
  split
  · exact ⟨_, rfl⟩
  · split
    · exact ⟨_, rfl⟩
    · exact ⟨s.claims, rfl⟩

/-- Occupation changes only the Claim Engine (R51, R52). -/
theorem enterUpTo_claims (front : Nat) (es : List RouteEntry) (i at_ : Nat) (s : State) :
    ∃ k, (enterUpTo front es i at_ s).1 = s.setClaims k := by
  induction es generalizing i at_ s with
  | nil => exact ⟨s.claims, rfl⟩
  | cons e es ih =>
    unfold enterUpTo
    split
    · obtain ⟨k, h⟩ := s.enterEntry_claims i e
      obtain ⟨k', h'⟩ := ih (i + 1) (at_ + e.length) (s.enterEntry i e).1
      exact ⟨k', by rw [h', h]; rfl⟩
    · exact ⟨s.claims, rfl⟩

/-- Release drops claims and live entries from the rear, as many of the one as of the other (R53). -/
theorem releaseBehind_drop (cs : List Claim) (es : List RouteEntry) (rear : Int) :
    ∃ k, releaseBehind cs es rear = (cs.drop k, es.drop k) := by
  induction es generalizing cs rear with
  | nil => exact ⟨0, by cases cs <;> rfl⟩
  | cons e es ih =>
    cases cs with
    | nil => exact ⟨0, by cases es <;> rfl⟩
    | cons c cs =>
      cases es with
      | nil => exact ⟨0, rfl⟩
      | cons e' es =>
        unfold releaseBehind
        split
        · obtain ⟨k, h⟩ := ih cs (rear - e.length)
          exact ⟨k + 1, by rw [h]; rfl⟩
        · exact ⟨0, rfl⟩

/-- Release changes only the claim list and the live entries (R10, R53). -/
theorem State.release_spec (s : State) : ∃ k,
    s.release = (s.setList (s.claims.list.drop k)).setRoute { s.route with
      entries := s.route.entries.drop k } := by
  unfold State.release
  split
  · exact ⟨0, rfl⟩
  · obtain ⟨k, h⟩ := releaseBehind_drop s.claims.list s.route.entries _
    exact ⟨k, by rw [h]⟩

/-- A position change leaves all but claims and route (R25). -/
theorem Work.positionChange_frame (w : Work) :
    w.positionChange.s
        = (w.s.setClaims w.positionChange.s.claims).setRoute w.positionChange.s.route
      ∧ w.positionChange.recompute = true := by
  unfold Work.positionChange
  split
  · exact ⟨rfl, rfl⟩
  · rename_i front _
    obtain ⟨k, h⟩ := enterUpTo_claims front w.s.route.entries w.s.route.first 0 w.s
    obtain ⟨n, h'⟩ := (enterUpTo front w.s.route.entries w.s.route.first 0 w.s).1.release_spec
    obtain ⟨new, h'', -⟩ :=
      (enterUpTo front w.s.route.entries w.s.route.first 0 w.s).1.release.claimAhead_spec
    refine ⟨?_, rfl⟩
    dsimp only
    rw [h'', h', h]
    rfl

/-- A yield changes the Claim Engine and counts, or does nothing (R56). -/
theorem State.yieldClaim_cases (s : State) (identity : Nat) :
    s.yieldClaim identity = s ∨ ∃ k, s.yieldClaim identity = (s.setClaims k).count .yields := by
  unfold State.yieldClaim
  split
  · exact .inr ⟨_, rfl⟩
  · exact .inl rfl

/-! ### Stop causes -/

/-- A cause that is recorded is in the set, and only the Mode Controller and the Drive Link Unit change
(R143). -/
theorem State.recordCause_spec (s : State) (c : Cause) : ∃ m l,
    s.recordCause c = (s.setCtl m).setLink l ∧ m.causes.has c = true ∧ m.mode = s.ctl.mode
      ∧ m.line = s.ctl.line := by
  have hm : (s.ctl.clearMark c).mode = s.ctl.mode ∧ (s.ctl.clearMark c).line = s.ctl.line
      ∧ (s.ctl.clearMark c).causes = s.ctl.causes := by cases c <;> exact ⟨rfl, rfl, rfl⟩
  unfold State.recordCause
  dsimp only
  split
  · rename_i h
    exact ⟨_, s.link, rfl, h, hm.1, hm.2.1⟩
  · obtain ⟨l, h⟩ := State.queueNotice_link
      ((s.setCtl (s.ctl.clearMark c)).setCtl { (s.setCtl (s.ctl.clearMark c)).ctl with
        causes := (s.setCtl (s.ctl.clearMark c)).ctl.causes.add c
        first := if (s.setCtl (s.ctl.clearMark c)).ctl.causes.isEmpty then some c
          else (s.setCtl (s.ctl.clearMark c)).ctl.first }) (.stopped c none)
    refine ⟨_, l, h, ?_, hm.1, hm.2.1⟩
    cases c <;> rfl

/-- Entering STOPPED changes the mode, the line, the TENTATIVE claims and the outstanding list (R144). -/
theorem Work.enterStopped_spec (w : Work) : ∃ l,
    w.enterStopped.s = ((w.s.setLink l).setMode .stopped).dropTentative
      ∧ w.enterStopped.recompute = true ∧ w.enterStopped.modeChanged = true := by
  unfold Work.enterStopped
  by_cases h : w.s.ctl.mode = .serving
  · exact ⟨{ w.s.link with outstanding := [], pendingIssue := false }, by simp [h]; rfl, rfl, rfl⟩
  · exact ⟨w.s.link, by simp [h]; rfl, rfl, rfl⟩

/-- The recomputation of the authority replaces the record alone, when it raises nothing (R103). -/
theorem Work.compute_auth (w : Work) : w.compute.s = w.s.setAuth w.s.computeAuthority.1 := rfl

/-! ### The link rate and the air port -/

/-- Ordering a rate changes nothing where it is the one in force; a change is made while the transmitter is
free and waits otherwise (R175). -/
theorem State.orderRate_cases (s : State) (rate : LinkRate) :
    (rate = s.config.linkRate ∧ s.orderRate rate = s)
      ∨ (rate ≠ s.config.linkRate ∧ s.link.transmitting = none ∧ s.orderRate rate = s.changeRate rate)
      ∨ (rate ≠ s.config.linkRate ∧ s.link.transmitting ≠ none
        ∧ s.orderRate rate = s.setConfig { s.config with pendingRate := some rate }) := by
  unfold State.orderRate
  split
  · exact .inl ⟨‹_›, rfl⟩
  · split
    · exact .inr (.inl ⟨‹_›, ‹_›, rfl⟩)
    · exact .inr (.inr ⟨‹_›, by simp [*], rfl⟩)

/-- A build touches the Beacon Unit alone; the frame it hands over is that of the payload it keeps (R129). -/
theorem State.buildBeacon_handed (s : State) : s.buildBeacon = s.setBeacon s.buildBeacon.beacon
    ∧ s.buildBeacon.beacon.handed = s.buildBeacon.beacon.lastPayload.map (txFrame s.beacon.seq) :=
  ⟨rfl, rfl⟩

end Sys2Proof.Machine
end

