-- ==== Sys2Proof/WellFormed.lean ====
section
/-!
DEFINITION. When a command's operands can come about at the part's links and lines (spec/11): the
lengths a frame can have, the route indices and slots that exist, and a type that is not a request's.
-/

namespace Sys2Proof

/-- The longest payload of a drive link frame and body of a modem frame (R180, R182). -/
def maxPayload : Nat := 250

/-- Is a type one that the intake can hold and that is no request type (R157, R180)? A DRIVE_REPORT
never reaches the intake (R156). -/
def isUnknownType (type : Byte) : Bool :=
  (type.toNat == 0 || decide (19 < type.toNat)) && type != 0x20#8

/-- The length check of a command's payload or body. -/
def fitsFrame (payload : List Byte) : Bool := decide (payload.length ≤ maxPayload)

/-- Is a command well formed? -/
def Instr.wellFormed : Instr → Bool
  | .powerOnReset _ => true
  | .pinReset _ => true
  | .configurationLoadEnd _ => true
  | .linkRateChange => true
  | .driveLinkRequestArrival bytes => !bytes.isEmpty
  | .driveReport payload _ => fitsFrame payload
  | .status payload => fitsFrame payload
  | .readClaims payload => fitsFrame payload
  | .readPeer payload => fitsFrame payload
  | .readCounters payload => fitsFrame payload
  | .clearCounters payload => fitsFrame payload
  | .clearLatched payload => fitsFrame payload
  | .appendRoute payload => fitsFrame payload
  | .truncateRoute payload => fitsFrame payload
  | .proceed payload => fitsFrame payload
  | .setStart payload => fitsFrame payload
  | .setUrgency payload => fitsFrame payload
  | .park payload => fitsFrame payload
  | .unpark payload => fitsFrame payload
  | .resume payload => fitsFrame payload
  | .clearPeer payload => fitsFrame payload
  | .airReset payload => fitsFrame payload
  | .setParam payload => fitsFrame payload
  | .setClass payload => fitsFrame payload
  | .restart payload => fitsFrame payload
  | .unknownRequest type payload => isUnknownType type && fitsFrame payload
  | .restartTakesEffect => true
  | .transmitterFrameSent => true
  | .beaconTimerExpiry => true
  | .txDone body => fitsFrame body
  | .beaconTxTimeout => true
  | .rxFrame body => fitsFrame body
  | .modemFrameOtherKind bytes => !bytes.isEmpty
  | .transponderRead bytes => !bytes.isEmpty
  | .externalStopEdge _ => true
  | .listenTimerExpiry => true
  | .authorityPeriodExpiry => true
  | .supervisionExpiry => true
  | .yieldWindowExpiry routeIndex => decide (routeIndex ≤ 65535)
  | .entryHoldExpiry routeIndex => decide (routeIndex ≤ 65535)
  | .backoffExpiry => true
  | .tableOverflowHoldExpiry => true
  | .peerStale slot => decide (slot < 24)
  | .peerExpire slot => decide (slot < 24)
  | .resetPinAsserted => true
  | .powerLoss => true

end Sys2Proof
end

