-- ==== Sys2Proof/Laws/PerInstr.lean ====
section
/-!
SUPPORT. A family of facts about each command as syntax: a well-formed command that arrives in one frame
fits that frame, and its bytes are not empty where it is a run of bytes.
-/

namespace Sys2Proof.Laws.CommandForm

/-- The payload or body of a command that is the content of one frame (R180, R182). -/
def content : Instr → Option (List Byte)
  | .driveReport payload _ => some payload
  | .status payload => some payload
  | .readClaims payload => some payload
  | .readPeer payload => some payload
  | .readCounters payload => some payload
  | .clearCounters payload => some payload
  | .clearLatched payload => some payload
  | .appendRoute payload => some payload
  | .truncateRoute payload => some payload
  | .proceed payload => some payload
  | .setStart payload => some payload
  | .setUrgency payload => some payload
  | .park payload => some payload
  | .unpark payload => some payload
  | .resume payload => some payload
  | .clearPeer payload => some payload
  | .airReset payload => some payload
  | .setParam payload => some payload
  | .setClass payload => some payload
  | .restart payload => some payload
  | .unknownRequest _ payload => some payload
  | .txDone body => some body
  | .rxFrame body => some body
  | _ => none

/-- The bytes of a command that is a run of bytes of a link or line. -/
def run : Instr → Option (List Byte)
  | .driveLinkRequestArrival bytes => some bytes
  | .modemFrameOtherKind bytes => some bytes
  | .transponderRead bytes => some bytes
  | _ => none

/-- A well-formed command's content fits a frame, and its run of bytes holds at least one. -/
def Statement (i : Instr) : Prop :=
  i.wellFormed = true →
    (∀ p, content i = some p → p.length ≤ 250) ∧ ∀ b, run i = some b → b ≠ []

/-- A content that passes the length check fits a frame. -/
theorem of_fits {p : List Byte} (h : fitsFrame p = true) : p.length ≤ 250 := of_decide_eq_true h

/-- A command that is the content of one frame. -/
theorem framed {i : Instr} {p : List Byte} (hc : content i = some p) (hr : run i = none)
    (hw : i.wellFormed = true → fitsFrame p = true) : Statement i := by
  refine fun h => ⟨fun q e => ?_, fun b e => by simp [hr] at e⟩
  obtain rfl : p = q := Option.some.inj (hc.symm.trans e)
  exact of_fits (hw h)

/-- A command that is a run of bytes. -/
theorem bytes {i : Instr} {p : List Byte} (hc : content i = none) (hr : run i = some p)
    (hw : i.wellFormed = true → (!p.isEmpty) = true) : Statement i := by
  refine fun h => ⟨fun q e => by simp [hc] at e, fun b e => ?_⟩
  obtain rfl : p = b := Option.some.inj (hr.symm.trans e)
  simpa using hw h

/-- A command that carries no bytes of a link. -/
theorem plain {i : Instr} (hc : content i = none) (hr : run i = none) : Statement i :=
  fun _ => ⟨fun q e => by simp [hc] at e, fun b e => by simp [hr] at e⟩

theorem powerOnReset : ∀ x0, Statement (.powerOnReset x0) :=
  fun _ => plain rfl rfl
theorem pinReset : ∀ x0, Statement (.pinReset x0) :=
  fun _ => plain rfl rfl
theorem configurationLoadEnd : ∀ x0, Statement (.configurationLoadEnd x0) :=
  fun _ => plain rfl rfl
theorem linkRateChange : Statement .linkRateChange :=
  plain rfl rfl
theorem driveLinkRequestArrival : ∀ x0, Statement (.driveLinkRequestArrival x0) :=
  fun _ => bytes rfl rfl fun h => h
theorem driveReport : ∀ x0 x1, Statement (.driveReport x0 x1) :=
  fun _ _ => framed rfl rfl fun h => h
theorem status : ∀ x0, Statement (.status x0) :=
  fun _ => framed rfl rfl fun h => h
theorem readClaims : ∀ x0, Statement (.readClaims x0) :=
  fun _ => framed rfl rfl fun h => h
theorem readPeer : ∀ x0, Statement (.readPeer x0) :=
  fun _ => framed rfl rfl fun h => h
theorem readCounters : ∀ x0, Statement (.readCounters x0) :=
  fun _ => framed rfl rfl fun h => h
theorem clearCounters : ∀ x0, Statement (.clearCounters x0) :=
  fun _ => framed rfl rfl fun h => h
theorem clearLatched : ∀ x0, Statement (.clearLatched x0) :=
  fun _ => framed rfl rfl fun h => h
theorem appendRoute : ∀ x0, Statement (.appendRoute x0) :=
  fun _ => framed rfl rfl fun h => h
theorem truncateRoute : ∀ x0, Statement (.truncateRoute x0) :=
  fun _ => framed rfl rfl fun h => h
theorem proceed : ∀ x0, Statement (.proceed x0) :=
  fun _ => framed rfl rfl fun h => h
theorem setStart : ∀ x0, Statement (.setStart x0) :=
  fun _ => framed rfl rfl fun h => h
theorem setUrgency : ∀ x0, Statement (.setUrgency x0) :=
  fun _ => framed rfl rfl fun h => h
theorem park : ∀ x0, Statement (.park x0) :=
  fun _ => framed rfl rfl fun h => h
theorem unpark : ∀ x0, Statement (.unpark x0) :=
  fun _ => framed rfl rfl fun h => h
theorem resume : ∀ x0, Statement (.resume x0) :=
  fun _ => framed rfl rfl fun h => h
theorem clearPeer : ∀ x0, Statement (.clearPeer x0) :=
  fun _ => framed rfl rfl fun h => h
theorem airReset : ∀ x0, Statement (.airReset x0) :=
  fun _ => framed rfl rfl fun h => h
theorem setParam : ∀ x0, Statement (.setParam x0) :=
  fun _ => framed rfl rfl fun h => h
theorem setClass : ∀ x0, Statement (.setClass x0) :=
  fun _ => framed rfl rfl fun h => h
theorem restart : ∀ x0, Statement (.restart x0) :=
  fun _ => framed rfl rfl fun h => h
theorem unknownRequest : ∀ x0 x1, Statement (.unknownRequest x0 x1) :=
  fun _ _ => framed rfl rfl fun h => ((Bool.and_eq_true _ _).mp h).2
theorem restartTakesEffect : Statement .restartTakesEffect :=
  plain rfl rfl
theorem transmitterFrameSent : Statement .transmitterFrameSent :=
  plain rfl rfl
theorem beaconTimerExpiry : Statement .beaconTimerExpiry :=
  plain rfl rfl
theorem txDone : ∀ x0, Statement (.txDone x0) :=
  fun _ => framed rfl rfl fun h => h
theorem beaconTxTimeout : Statement .beaconTxTimeout :=
  plain rfl rfl
theorem rxFrame : ∀ x0, Statement (.rxFrame x0) :=
  fun _ => framed rfl rfl fun h => h
theorem modemFrameOtherKind : ∀ x0, Statement (.modemFrameOtherKind x0) :=
  fun _ => bytes rfl rfl fun h => h
theorem transponderRead : ∀ x0, Statement (.transponderRead x0) :=
  fun _ => bytes rfl rfl fun h => h
theorem externalStopEdge : ∀ x0, Statement (.externalStopEdge x0) :=
  fun _ => plain rfl rfl
theorem listenTimerExpiry : Statement .listenTimerExpiry :=
  plain rfl rfl
theorem authorityPeriodExpiry : Statement .authorityPeriodExpiry :=
  plain rfl rfl
theorem supervisionExpiry : Statement .supervisionExpiry :=
  plain rfl rfl
theorem yieldWindowExpiry : ∀ x0, Statement (.yieldWindowExpiry x0) :=
  fun _ => plain rfl rfl
theorem entryHoldExpiry : ∀ x0, Statement (.entryHoldExpiry x0) :=
  fun _ => plain rfl rfl
theorem backoffExpiry : Statement .backoffExpiry :=
  plain rfl rfl
theorem tableOverflowHoldExpiry : Statement .tableOverflowHoldExpiry :=
  plain rfl rfl
theorem peerStale : ∀ x0, Statement (.peerStale x0) :=
  fun _ => plain rfl rfl
theorem peerExpire : ∀ x0, Statement (.peerExpire x0) :=
  fun _ => plain rfl rfl
theorem resetPinAsserted : Statement .resetPinAsserted :=
  plain rfl rfl
theorem powerLoss : Statement .powerLoss :=
  plain rfl rfl

end Sys2Proof.Laws.CommandForm
end

