-- ==== Sys2Proof/Tests/Slice0.lean ====
section
/-!
SUPPORT. Tests: the well-formedness checks refuse ill-formed commands; values of the manual's worked
sequences; and for each statement of Certificates/Slice0/Obligations.lean with hypotheses, a concrete
state and operands that meet them.
-/

namespace Sys2Proof.Tests

open Sys2Proof Sys2Proof.Machine

set_option Elab.async false

/-! ### Well-formedness -/

theorem test_wellformed_payload_too_long :
    (Instr.status (List.replicate 251 0#8)).wellFormed = false
      ∧ (Instr.driveReport (List.replicate 251 0#8) 0#16).wellFormed = false
      ∧ (Instr.rxFrame (List.replicate 251 0#8)).wellFormed = false
      ∧ (Instr.status (List.replicate 250 0#8)).wellFormed = true := by decide +kernel

theorem test_wellformed_no_bytes :
    (Instr.driveLinkRequestArrival []).wellFormed = false
      ∧ (Instr.modemFrameOtherKind []).wellFormed = false
      ∧ (Instr.transponderRead []).wellFormed = false := by decide +kernel

theorem test_wellformed_unknown_type :
    (Instr.unknownRequest 0x13#8 []).wellFormed = false
      ∧ (Instr.unknownRequest 0x20#8 []).wellFormed = false
      ∧ (Instr.unknownRequest 0x14#8 (List.replicate 251 0#8)).wellFormed = false
      ∧ (Instr.unknownRequest 0x14#8 []).wellFormed = true
      ∧ (Instr.unknownRequest 0x00#8 []).wellFormed = true := by decide +kernel

theorem test_wellformed_index_and_slot :
    (Instr.yieldWindowExpiry 65536).wellFormed = false
      ∧ (Instr.entryHoldExpiry 65536).wellFormed = false
      ∧ (Instr.peerStale 24).wellFormed = false ∧ (Instr.peerExpire 24).wellFormed = false
      ∧ (Instr.peerExpire 23).wellFormed = true := by decide +kernel

/-! ### Formats (spec/11) -/

/-- R180: the CRC-16 of the nine characters "123456789". -/
theorem test_crc16_check_value :
    crc16 [0x31#8, 0x32#8, 0x33#8, 0x34#8, 0x35#8, 0x36#8, 0x37#8, 0x38#8, 0x39#8] = 0x29B1#16 := by
  decide +kernel

/-- R182: a reader frame by hand: 0x52 xor 0x12 xor 0x34 is 0x74. -/
theorem test_reader_frame : readerFrame 0x1234#16 = [0x52#8, 0x12#8, 0x34#8, 0x74#8] := by
  decide +kernel

/-- Section 7.6: the register of station 17 from its seed on. -/
theorem test_jitter_sequence :
    (BeaconUnit.reset 17#8).jitter = 0x1111#16 ∧ jitterStep 0x1111#16 = 0x8888#16
      ∧ jitterStep 0x8888#16 = 0xC444#16 ∧ jitterStep 0xC444#16 = 0xE222#16
      ∧ jitterStep 0xF111#16 = 0xF888#16 ∧ jitterDraw 0x1111#16 40 = 23
      ∧ jitterDraw 0xE222#16 40 = 39 := by decide +kernel

/-! ### The states of the tests -/

/-- The parameters of section 6.6. -/
def params66 : Params :=
  { Params.defaults ⟨9#8, 0#2, 0#2⟩ with
    decel := 150, reactionMs := 400, margin := 200, vehicleLength := 1050, maxSpeed := 1000 }

/-- A route entry without override, stop point or crane sequence. -/
def lane (cell : CellId) (length : Nat) : RouteEntry := ⟨cell, length, none, none, none, false⟩

/-- An own claim of the tests, its identity its index. -/
def own (i : Nat) (cell : CellId) (st : ClaimState) : Claim where
  identity := i
  index := i
  cell := cell
  state := st
  announce := 2
  firstAnnounce := some 0
  heldSince := if st = .tentative then none else some 0
  crane := none
  yieldTimer := none
  holdTimer := none

/-- A peer entry of the tests, in SERVING, with one claim. -/
def peer (id : StationId) (age : AgeState) (cell : CellId) (st : ClaimState) : PeerEntry where
  id := id
  seq := 10#8
  mode := .serving
  urgency := 0
  deferral := 0
  posCell := cell
  posOffset := 0
  speed := 0
  age := age
  lastHeard := 0
  claims := [⟨cell, st, none⟩]

/-- Station 9 in SERVING as section 6.6 sets it out, with two peers elsewhere, at time 5000. -/
def bay : State :=
  { State.reset with
    route := ⟨[lane 0x0104#16 1200, lane 0x0105#16 1200, lane 0x0106#16 1200, lane 0x1107#16 800,
      lane 0x1108#16 800], 9, .active⟩
    pos := ⟨true, some ⟨5, 280⟩, 0, 1000, 0, 600⟩
    claims := ⟨[own 4 0x0104#16 .occupied, own 5 0x0105#16 .occupied, own 6 0x0106#16 .held,
      own 7 0x1107#16 .held, own 8 0x1108#16 .tentative], 0, 0, none, 9⟩
    peers := ⟨some (peer 20#8 .fresh 0x0420#16 .held) :: some (peer 21#8 .stale 0x0421#16 .occupied)
      :: List.replicate 22 none, none⟩
    beacon := { BeaconUnit.reset 9#8 with timer := some 5000 }
    ctl := { ModeController.reset with mode := .serving, line := .released, listenDone := true }
    link := { DriveLink.reset with authTimer := some 5000 }
    config := { ConfigLoader.reset ⟨9#8, 0#2, 0#2⟩ with
      params := params66, horizon := params66.horizon, ready := true, loading := false }
    now := 5000 }

/-- `bay` at rest. -/
def rest : State := { bay with pos := { bay.pos with speed := 0 } }

/-- A state in another mode, the TENTATIVE claims dropped. -/
def inMode (m : Mode) (s : State) : State := (s.setMode m).dropTentative

/-- A state whose intake holds one request. -/
def asked (f : Frame) (s : State) : State := { s with link := { s.link with intake := [f] } }

/-- A state in LISTEN before start, its route live and no claim made. -/
def listening : State :=
  { inMode .listen rest with
    pos := ⟨false, none, 0, 0, 0, 0⟩
    claims := ⟨[], 0, 0, none, 0⟩
    ctl := { (inMode .listen rest).ctl with listenFrom := some 3000, listenDone := false } }

/-- `rest` in STOPPED with the causes `k`. -/
def stoppedWith (k : CauseSet) (first : Option Cause) : State :=
  { inMode .stopped rest with
    ctl := { (inMode .stopped rest).ctl with causes := k, first := first } }

/-- The causes of a silent drive computer. -/
def silent : CauseSet := { CauseSet.none with driveSilent := true }

/-- A state with a beacon in flight. -/
def inFlight (s : State) : State :=
  { s with beacon := { s.beacon with inFlight := some ⟨3#8, 4800, [8], false⟩ } }

/-- The state after a command. -/
def after (c : Instr) (s : State) : State :=
  match exec c s with
  | .next t => t
  | _ => s

/-- `rest` in LISTEN after start, as it stands with the listen period running. -/
def started : State :=
  { listening with pos := rest.pos, claims := (inMode .listen rest).claims }

/-- `rest` with its front bound exactly at the start of entry 7, which has no claim. -/
def atStart : State :=
  { rest with
    pos := ⟨true, some ⟨7, 0⟩, 0, 0, 0, 0⟩
    claims := { rest.claims with list := rest.claims.list.take 3 } }

/-- The crossing of section 6.7, its entry hold elapsed. -/
def crossing : State :=
  { bay with
    route := { bay.route with entries := [lane 0x0104#16 1200, lane 0x0105#16 1200,
      lane 0x0106#16 1200, lane 0x2107#16 800, lane 0x1108#16 800] }
    claims := { bay.claims with list := bay.claims.list.map fun c =>
      if c.index = 7 then { c with cell := 0x2107#16 } else c } }

/-! ### The manual's worked sequences -/

/-- Section 6.6: the authority record. -/
theorem test_authority_of_66 :
    bay.computeAuthority = (⟨2700, some ⟨7, 600⟩, 830, false⟩, false) := by decide +kernel

/-- Section 6.6: distances. -/
theorem test_distances_of_66 :
    params66.stopping 840 = 2688 ∧ params66.stopping 845 = 2719 ∧ params66.braking 830 400 = 2095
      ∧ params66.braking 835 400 = 2125 ∧ params66.stopping 600 = 1440
      ∧ bay.commit? = some (1500 + 1640) := by decide +kernel

/-- Section 6.6: a peer that reserves entry 7 ends the run at entry 6. -/
theorem test_blocked_of_66 :
    ({ bay with peers := ⟨[some (peer 20#8 .stale 0x1107#16 .held)], none⟩ } : State).computeAuthority
      = (⟨1900, some ⟨6, 1000⟩, 695, false⟩, false) := by decide +kernel

/-- Section 6.7: the keep-clear pull-back. -/
theorem test_keep_clear_of_67 :
    crossing.computeAuthority = (⟨2100, some ⟨7, 0⟩, 735, false⟩, false) := by decide +kernel

/-- Section 10.5: the record's values, clamped and raised, and H. -/
theorem test_load_of_105 :
    let c := (ConfigLoader.reset ⟨8#8, 2#2, 1#2⟩).apply [(.decel, 350), (.maxSpeed, 900),
      (.beaconPeriod, 300), (.beaconJitter, 80), (.yieldWindow, 500), (.peerStale, 900)] []
    c.params.decel = 300 ∧ c.params.yieldWindow = 730 ∧ c.params.peerStale = 1030
      ∧ c.params.listenMs = 2000 ∧ c.horizon = 1950 ∧ c.clamped = true
      ∧ c.params.vehicleLength = 1200 ∧ (c.store .maxSpeed 1200).horizon ≠ 1950 := by decide +kernel

/-- Section 2.7: a report of 80 cm carries the position from (21, 940) to (22, 20). -/
theorem test_carry_of_27 :
    (RouteStore.mk [lane 0x1210#16 1000, lane 0x1211#16 1000, lane 0x1212#16 1000, lane 0x2040#16 600,
        lane 0x1214#16 1000] 25 .active).carryOn ⟨21, 940 + 80⟩ = ⟨22, 20⟩
      ∧ (PositionUnit.mk true (some ⟨21, 940⟩) 0 940 0 0).u = 19
      ∧ (PositionUnit.mk true (some ⟨22, 20⟩) 0 1020 0 0).u = 21 := by decide +kernel

/-- Section 5.6: on a crane spot the lower sequence outranks, HELD or not. -/
theorem test_rank_of_56 :
    outranks true ⟨.tentative, some 41, 0, 0, 23#8⟩ ⟨.held, some 42, 0, 0, 17#8⟩ = true
      ∧ outranks false ⟨.tentative, some 41, 0, 0, 23#8⟩ ⟨.held, some 42, 0, 0, 17#8⟩ = false := by
  decide +kernel

/-- Section 4.6: sequence 0 after 101 is not newer, but LISTEN after SERVING is taken. -/
theorem test_acceptance_of_46 :
    let old := { peer 41#8 .fresh 0x1205#16 .occupied with seq := 101#8 }
    accepts old { old with seq := 0#8 } = false
      ∧ accepts old { old with seq := 0#8, mode := .listen } = true
      ∧ accepts { old with seq := 99#8 } old = true := by decide +kernel

/-! ### Hypotheses that can be met: the machine and its invariants -/

/-- A state with a command in front. -/
def queued (c : Instr) (s : State) : State := { s with pending := [c] }

theorem witness_StepRunsFrontCommand : (queued .powerLoss bay).pending = .powerLoss :: [] := rfl

theorem witness_EmptyQueueMovesOn :
    (State.reset.pending = [] ∧ State.reset.due = [])
      ∧ (({ bay with beacon := BeaconUnit.reset 9#8, peers := .reset } : State).pending = []
        ∧ ({ bay with beacon := BeaconUnit.reset 9#8, peers := .reset } : State).due
            = [.authorityPeriodExpiry])
      ∧ bay.pending = [] ∧ 2 ≤ bay.due.length := by decide +kernel

theorem witness_HeldPartTakesNothing :
    ({ State.reset with resetPin := true } : State).held = true
      ∧ ({ State.reset with supplyLost := true } : State).held = true := by decide +kernel

/-- Every invariant holds in `bay` with a command in front, and a step runs it. -/
theorem witness_invariants :
    (queued .powerLoss bay).ok ∧ ∃ t, step (queued .powerLoss bay) = .next t :=
  have h : (queued .powerLoss bay).ok := by
    unfold State.ok
    refine ⟨?_, ?_, ?_, ?_, ?_, ?_, ?_, ?_, ?_, ?_⟩ <;> decide +kernel
  ⟨h, _, rfl⟩

/-- A peer that reserves the cell of entry 7, on which the own claim is HELD. -/
def blockedBay : State := { bay with peers := ⟨some (peer 20#8 .fresh 0x1107#16 .held)
  :: List.replicate 23 none, none⟩ }

/-- `bay` with the position at the start of entry `i`. -/
def bayAt (i : Nat) : State := { bay with pos := { bay.pos with pos := some ⟨i, 0⟩ } }

/-- `bay` with a stop point on entry 7. -/
def withStop : State :=
  { bay with route := { bay.route with entries := bay.route.entries.take 3
      ++ { lane 0x1107#16 800 with stop := some 799 } :: [lane 0x1108#16 800] } }

/-- `bayAt 6`, its front bound strictly inside a cell that a peer reserves too. -/
def inside : State :=
  { bayAt 6 with peers := ⟨some (peer 20#8 .fresh 0x0106#16 .held) :: List.replicate 23 none, none⟩ }

/-- `bay` with the position past the end of the route. -/
def past : State := { bay with pos := { bay.pos with pos := some ⟨8, 900⟩ } }

/-- `atStart` one centimetre on. -/
def within : State := { atStart with pos := { atStart.pos with pos := some ⟨7, 1⟩ } }

/-- Route, claims and position agree in the states of the authority's witnesses. -/
theorem witness_structures :
    (blockedBay.structureOk ∧ inside.structureOk ∧ bay.structureOk ∧ withStop.structureOk)
      ∧ crossing.structureOk ∧ past.structureOk ∧ within.structureOk ∧ atStart.structureOk :=
  ⟨⟨by decide +kernel, by decide +kernel, by decide +kernel, by decide +kernel⟩, by decide +kernel,
    by decide +kernel, by decide +kernel, by decide +kernel⟩

/-- The front bound before the blocked cell, and strictly inside one. -/
theorem witness_AuthorityStopsShortOfBlockedCells :
    (blockedBay.front? = some 1500
      ∧ blockedBay.route.entry? 7 = some (lane 0x1107#16 800)
      ∧ blockedBay.peers.blocked 0x1107#16 = true
      ∧ (∀ c ∈ blockedBay.claims.list, c.index = 7 → c.state ≠ .occupied)
      ∧ 1500 ≤ blockedBay.route.startOf 7
      ∧ blockedBay.ctl.mode = .serving)
      ∧ inside.front? = some 2420
          ∧ inside.route.entry? 6 = some (lane 0x0106#16 1200)
          ∧ inside.peers.blocked 0x0106#16 = true
          ∧ (∀ c ∈ inside.claims.list, c.index = 6 → c.state ≠ .occupied)
          ∧ inside.route.startOf 6 < 2420 ∧ 2420 < inside.route.endOf 6 := by decide +kernel

theorem witness_CeilingIsLargest :
    (bay.ceilingSearch 1500 1000 2700 200 = 830 ∧ 830 < 5 * 167 ∧ 167 ≤ 200
      ∧ bay.ceilingSearch 1500 1000 0 200 = 0)
      ∧ bay.route.ok ∧ bay.route.entries ≠ [] ∧ listening.ctl.mode ≠ .serving := by decide +kernel

/-- The front bound in a claim, with nothing, a stop point and a keep-clear window that bounds it. -/
theorem witness_AuthorityRecord :
    (bay.ctl.mode = .serving ∧ bay.front? = some 1500
        ∧ bay.route.cellAt 1500 = some (5, lane 0x0105#16 1200, 1200)
        ∧ (∃ c ∈ bay.claims.list, c.index = 5) ∧ bay.route.firstStop = none)
      ∧ (withStop.front? = some 1500
        ∧ withStop.route.firstStop = some ⟨7, 799⟩
        ∧ withStop.computeAuthority.1.length = 3600 + 799 - 1500)
      ∧ crossing.front? = some 1500
        ∧ (crossing.classOf 0x2107#16).keepClear = true
        ∧ crossing.route.startOf 7 = 3600 ∧ 3600 < 1500 + 2700
        ∧ 1500 + 2700 < crossing.route.endOf 7 + crossing.config.params.vehicleLength := by
  decide +kernel

/-- The front bound past the route, strictly inside an entry without a claim, and at its start. -/
theorem witness_AuthorityOutsideTheClaims :
    (past.ctl.mode = .serving ∧ past.front? = some 5320
        ∧ past.route.cellAt 5320 = none)
      ∧ (within.ctl.mode = .serving ∧ within.front? = some 3601
        ∧ within.route.cellAt 3601 = some (7, lane 0x1107#16 800, 3600)
        ∧ ∀ c ∈ within.claims.list, c.index ≠ 7)
      ∧ atStart.front? = some 3600
        ∧ atStart.route.cellAt 3600 = some (7, lane 0x1107#16 800, 3600) := by decide +kernel

/-! ### Hypotheses: formulas, orders and claims -/

theorem witness_UncertaintyRule :
    bay.config.params.startUnc ≤ 300 ∧ State.reset.posOk ∧ State.reset.pos.start = false
      ∧ State.reset.pos.pos = none := by decide +kernel

theorem witness_StoppingDistanceRule :
    (50 ≤ params66.decel ∧ params66.decel ≤ 300 ∧ params66.reactionMs ≤ 1000)
      ∧ ({ params66 with decel := 50, reactionMs := 1000 } : Params).decel = 50
      ∧ ({ params66 with decel := 50, reactionMs := 1000 } : Params).reactionMs = 1000 := by
  decide +kernel

theorem witness_BrakingDistanceRule :
    (50 ≤ params66.decel ∧ params66.decel ≤ 300 ∧ params66.reactionMs ≤ 1000 ∧ 400 < 1200
        ∧ 400 < 401 ∧ 401 ≤ 1200)
      ∧ bay.config.ok
      ∧ (∀ o, (lane 0x1107#16 800).cap = some o → 50 ≤ o) :=
  ⟨by decide +kernel, by decide +kernel, fun _ h => nomatch h⟩

/-- For each test of R83, two claims that it separates. -/
theorem witness_RankRule :
    let r (st : ClaimState) (q : Option Nat) (u d : Nat) (id : StationId) : Ranked := ⟨st, q, u, d, id⟩
    outranks true (r .occupied none 0 0 9#8) (r .held (some 1) 3 7 1#8) = true
      ∧ outranks true (r .tentative (some 65535) 0 0 9#8) (r .held none 3 7 1#8) = true
      ∧ outranks false (r .held none 0 0 9#8) (r .tentative (some 1) 3 7 1#8) = true
      ∧ outranks false (r .held none 1 0 9#8) (r .held none 0 7 1#8) = true
      ∧ outranks false (r .held none 1 1 9#8) (r .held none 1 0 1#8) = true
      ∧ outranks false (r .held none 1 1 1#8) (r .held none 1 1 9#8) = true := by decide +kernel

theorem witness_ContestOutcomesAndYield :
    (own 5 0x0105#16 .occupied).state = .occupied ∧ (own 6 0x0106#16 .held).state = .held
      ∧ (own 8 0x1108#16 .tentative).state = .tentative
      ∧ bay.claims.list = bay.claims.list.take 3 ++ own 7 0x1107#16 .held :: [own 8 0x1108#16 .tentative]
      ∧ (∀ x ∈ bay.claims.list.take 3, x.identity ≠ 7)
      ∧ ∀ x ∈ bay.claims.list, x.identity ≠ 3 := by decide +kernel

/-- Claiming ahead has something to claim, and has not. -/
theorem witness_ClaimAheadConditions :
    ({ bay with claims := { bay.claims with list := bay.claims.list.take 4 } } : State).nextToClaim
        = some (8, lane 0x1108#16 800)
      ∧ bay.nextToClaim = none := by decide +kernel

/-- The TENTATIVE claim of `bay` meets the five conditions; a HELD one does not. -/
theorem witness_PromotionConditions :
    bay.claims.list[4]? = some (own 8 0x1108#16 .tentative)
      ∧ bay.promoteAll.1.claims.list[4]?
        = some { own 8 0x1108#16 .tentative with state := .held, heldSince := some 5000 }
      ∧ bay.promoteAll.1.claims.list.take 4 = bay.claims.list.take 4 := by decide +kernel

/-- The front bound in entry 6, which is HELD, and in entry 8, which is TENTATIVE; the rear bound past
entry 4. -/
theorem witness_PositionChangeOccupiesAndReleases :
    ((bayAt 6).structureOk ∧ (bayAt 6).front? = some 2420 ∧ (bayAt 6).rear? = some 1330
        ∧ (bayAt 6).route.endOf 4 = 1200 ∧ (bayAt 6).route.startOf 6 = 2400)
      ∧ (bayAt 8).structureOk ∧ (bayAt 8).front? = some 4420 ∧ (bayAt 8).route.startOf 8 = 4400
      ∧ (bayAt 8).rear? = some 3330 :=
  ⟨by decide +kernel, by decide +kernel, by decide +kernel, by decide +kernel, by decide +kernel⟩

/-! ### Hypotheses: links and records -/

theorem witness_FramesReadBack :
    (∀ f ∈ [Frame.mk 0x20#8 [0#8, 0#8, 0#8, 0#8, 0#8], Frame.mk 0x07#8 (List.replicate 250 0xA5#8)],
      f.payload.length ≤ 250 ∧ (f.type = 0x20#8 → f.payload.length = 5))
      ∧ (∀ f ∈ [((0x3C#8 : Byte), List.replicate 250 (0x3C#8 : Byte))], f.2.length ≤ 250)
      ∧ (bay.ctl.mode ≠ .init ∧ bay.claims.list.length ≤ 12 ∧ bay.front? = some 1500 ∧ bay.route.ok
        ∧ bay.route.entries ≠ []) ∧ listening.ctl.mode ≠ .init ∧ listening.pos.pos = none := by
  decide +kernel

theorem witness_BuiltBeaconPassesTheChecks :
    (1 ≤ bay.config.straps.stationId.toNat ∧ bay.config.straps.stationId.toNat ≤ 250
        ∧ bay.ctl.mode ≠ .init ∧ bay.boundsOk ∧ bay.structureOk)
      ∧ ∀ c ∈ bay.claims.list, c.crane = none := by decide +kernel

/-- A beacon that passes the checks, and one with a cell twice. -/
theorem witness_BeaconFieldChecks :
    let b : Beacon := ⟨250#8, 0#8, 4#8, 3, 7, 0#16, 0, 65535, [⟨0x0101#16, 3#8, none⟩]⟩
    (checkBeacon b 0).isSome = true
      ∧ checkBeacon { b with claims := b.claims ++ b.claims } 0 = none
      ∧ checkBeacon { b with id := 251#8 } 0 = none
      ∧ (List.replicate 255 ((noCell, 0#8, 0#16) : CellId × Byte × Half)).length ≤ 255 := by
  decide +kernel

/-- The body of a record with one pair and the default class table. -/
def recordBody : List Byte :=
  [0x4A#8, 0x36#8, 0#8, 92#8, 1#8, 18#8, 0#8, 0#8, 0#8, 3#8]
    ++ (List.replicate 16 [0x03#8, 0xE8#8, 0#8, 0#8, 0#8]).flatten

/-- A record of that body with its CRC is read. -/
theorem record_read : readRecord (recordBody ++ bytesOfHalf (crc16 recordBody))
    = .record [(.linkRate, 3)] (List.replicate 16 (⟨1000, false, false, 0⟩, false)) := by
  have hl : recordBody.length = 85 + 5 * (1#8 : Byte).toNat := by decide +kernel
  have ht (t : List Byte) : (recordBody ++ t).take (85 + 5 * (1#8 : Byte).toNat) = recordBody
      ∧ (recordBody ++ t).drop (85 + 5 * (1#8 : Byte).toNat) = t := by rw [← hl]; simp
  have hb : recordBody = 0x4A#8 :: 0x36#8 :: 0#8 :: 92#8 :: 1#8 :: recordBody.drop 5 := by
    decide +kernel
  have hd : (recordBody.drop 5).length = 85 := by decide +kernel
  obtain ⟨h1, h2⟩ := ht (bytesOfHalf (crc16 recordBody))
  generalize hx : crc16 recordBody = x at *
  have hp : recordPairs 1 (recordBody.drop 5 ++ bytesOfHalf x) = some [(.linkRate, 3)] := rfl
  have hc : recordClasses 16 ((recordBody.drop 5 ++ bytesOfHalf x).drop 5)
      = List.replicate 16 (⟨1000, false, false, 0⟩, false) := rfl
  have hm : recordBody ++ bytesOfHalf x = 0x4A#8 :: 0x36#8 :: 0#8 :: 92#8 :: 1#8
      :: (recordBody.drop 5 ++ bytesOfHalf x) := congrArg (· ++ bytesOfHalf x) hb
  rw [hm] at h1 h2 ⊢
  unfold readRecord
  dsimp only
  rw [h1, h2, hx, if_neg (by decide), if_neg (by decide), if_neg (by decide),
    if_neg (by simp [hd, bytesOfHalf]), if_neg (by simp [bytesOfHalf])]
  show (match recordPairs 1 (recordBody.drop 5 ++ bytesOfHalf x) with
    | none => LoadResult.bad
    | some ps => .record ps (recordClasses 16 ((recordBody.drop 5 ++ bytesOfHalf x).drop 5))) = _
  rw [hp, hc]

theorem witness_ConfigurationMemoryRead :
    (([(.linkRate, 3)] : List (ParamId × BitVec 32)).length ≤ 18
        ∧ (List.replicate 16 ((1000#16, 0#8, 0#16) : Half × Byte × Half)).length = 16
        ∧ (List.replicate 18 ((.decel, 50) : ParamId × BitVec 32)).length ≤ 18)
      ∧ (0x4A#8 ++ 0x37#8 : Half) ≠ 0xFFFF#16 ∧ (0x4A#8 ++ 0x37#8 : Half) ≠ 0x4A36#16
      ∧ 18 < (19#8 : Byte).toNat ∧ (0#8 ++ 88#8 : Half).toNat ≠ 87 + 5 * (0#8 : Byte).toNat
      ∧ ([0#8, 92#8] : List Byte).length < 3
      ∧ (List.replicate 86 (0#8 : Byte)).length < 82 + 5 * (1#8 : Byte).toNat
      ∧ (List.replicate 85 (0#8 : Byte)).length = 80 + 5 * (1#8 : Byte).toNat
      ∧ (List.replicate 80 (0#8 : Byte)).length = 80
      ∧ (∃ p ∈ [((0#8 : Byte), (0#32 : BitVec 32))], p.1 = 0#8 ∨ 18 < p.1.toNat)
      ∧ ∃ p ∈ [((19#8 : Byte), (0#32 : BitVec 32))], p.1 = 0#8 ∨ 18 < p.1.toNat := by
  decide +kernel

/-- There is always a CRC field that is wrong. -/
theorem witness_wrong_crc (m : List Byte) : crc16 m + 1#16 ≠ crc16 m := by
  generalize crc16 m = x
  intro h
  have := congrArg BitVec.toNat h
  simp [BitVec.toNat_add] at this
  omega

/-! ### Hypotheses: resets and the load -/

theorem witness_ResetGivesEveryBlockItsState :
    State.reset.resetPin = false ∧ State.reset.supplyLost = false
      ∧ ({ bay with resetPin := true } : State).resetPin = true
      ∧ ({ bay with supplyLost := true } : State).supplyLost = true
      ∧ ({ bay with link := { bay.link with restartDue := true } } : State).held = false := by
  decide +kernel

/-- Reset with other straps. -/
def resetAs (id : StationId) : State :=
  { State.reset with config := .reset ⟨id, 0#2, 0#2⟩, beacon := .reset id }

theorem witness_FaultyLoadStaysInInit :
    (State.reset.held = false ∧ State.reset.noticesComplete ∧ State.reset.config.loading = true)
      ∧ ((resetAs 0#8).held = false ∧ (resetAs 0#8).noticesComplete
        ∧ (resetAs 0#8).config.loading = true ∧ (resetAs 0#8).config.straps.stationId.toNat = 0)
      ∧ 250 < (resetAs 251#8).config.straps.stationId.toNat
      ∧ readRecord [0x00#8, 0x00#8] = .bad ∧ bay.config.loading = false ∧ bay.held = false
      ∧ bay.noticesComplete := by decide +kernel

theorem witness_GoodLoadEntersListen :
    let s := resetAs 250#8
    (s.held = false ∧ s.config.loading = true ∧ s.ctl.mode = .init ∧ s.pos.start = false
        ∧ 1 ≤ s.config.straps.stationId.toNat ∧ s.config.straps.stationId.toNat ≤ 250)
      ∧ readRecord [0xFF#8, 0xFF#8] = .noRecord := by decide +kernel

/-- The record of the other case of that statement is `record_read`'s. -/
theorem witness_GoodLoadWithRecord : ∃ memory pairs classes, readRecord memory = .record pairs classes :=
  ⟨_, _, _, record_read⟩

/-! ### Hypotheses: the drive link -/

/-- A bad CRC, and a bad length, without a byte that reads as a sync. -/
theorem witness_FramesJoinTheIntakeOrAreCounted :
    (bay.held = false ∧ bay.linkIdle ∧ bay.link.intake.length < 4)
      ∧ (4 ≤ ({ bay with link := { bay.link with
        intake := List.replicate 4 ⟨0x01#8, []⟩ } } : State).link.intake.length)
      ∧ ((∀ b ∈ byteOf 5 :: ([0#8, 0#8, 0#8, 0#8, 0#8] ++ bytesOfHalf 0#16), b ≠ 0xA5#8)
        ∧ (0#16 : Half) ≠ crc16 (0x20#8 :: byteOf 5 :: [0#8, 0#8, 0#8, 0#8, 0#8]))
      ∧ ((∀ b ∈ byteOf 0 :: ([] ++ bytesOfHalf 0#16), b ≠ 0xA5#8) ∧ ([] : List Byte).length ≠ 5)
      ∧ 3 < (linkFrame 0x01#8 []).length
      ∧ ((0#16 : Half) ≠ crc16 [0x01#8, byteOf 0]
        ∧ ∀ b ∈ 0x01#8 :: byteOf 0 :: ([] ++ bytesOfHalf 0#16), b ≠ 0xA5#8)
      ∧ 250 < (251#8 : Byte).toNat ∧ (0x01#8 : Byte) ≠ 0xA5#8 := by decide +kernel

/-- The two ways an echo matches in SERVING; the distance since fix at FIX_GAP_MAX, which is 4000; the
distances and speeds at their limits. -/
theorem witness_DriveReportMovesPosition :
    (bay.held = false ∧ bay.linkIdle ∧ bay.ctl.mode ≠ .init ∧ bay.pos.start = true
        ∧ bay.pos.pos ≠ none ∧ bay.noticesComplete)
      ∧ (State.reset.held = false ∧ State.reset.linkIdle ∧ State.reset.ctl.mode = .init)
      ∧ (0x07#8 ++ 0xD0#8 : Half).toNat = 2000 ∧ (0x04#8 ++ 0xB1#8 : Half).toNat = 1201
      ∧ bay.ctl.mode = .serving
      ∧ (∀ l ∈ [[Outstanding.mk 7#8 4900], [Outstanding.mk 7#8 4900, ⟨8#8, 4950⟩]],
        ∃ o rest, l = o :: rest ∧ o.seq = 7#8)
      ∧ (7#8 : Byte) ≠ 8#8
      ∧ 4000 ≤ bay.config.params.fixGapMax
      ∧ bay.config.params.fixGapMax < min 65535 (4000 + (0#8 ++ 1#8 : Half).toNat) := by
  refine ⟨by decide +kernel, by decide +kernel, by decide +kernel, by decide +kernel,
    by decide +kernel, ?_, by decide, by decide +kernel, by decide +kernel⟩
  simp

/-- R166, R167: the echo of the second entry empties the list, and the pending issue is carried out. -/
theorem test_echo_carries_out_pending_issue :
    let p : List Byte := [8#8, 0#8, 0#8, 0#8, 0#8]
    let t := after (.driveReport p (crc16 (0x20#8 :: 5#8 :: p))) { bay with link := { bay.link with
      outstanding := [⟨7#8, 4900⟩, ⟨8#8, 4950⟩], pendingIssue := true, authSeq := 9#8 } }
    t.link.outstanding = [⟨9#8, 5000⟩] ∧ t.link.pendingIssue = false
      ∧ t.link.counters.unmatchedReports = 0 := by decide +kernel

/-- The carry within an entry, over one entry, and past the last. -/
theorem witness_DriveReportCarry :
    bay.route.ok ∧ bay.route.entry? 5 = some (lane 0x0105#16 1200)
      ∧ bay.route.carryOn ⟨5, 1199⟩ = ⟨5, 1199⟩ ∧ bay.route.carryOn ⟨5, 1200⟩ = ⟨6, 0⟩
      ∧ bay.route.carryOn ⟨8, 801⟩ = ⟨8, 801⟩ := by decide +kernel

theorem witness_RequestsTakenAndRefusedAtTheLink :
    ((asked ⟨0x14#8, []⟩ bay).readyFor ⟨0x14#8, []⟩ ∧ isRequestType 0x14#8 = false)
      ∧ ((asked ⟨0x02#8, []⟩ State.reset).readyFor ⟨0x02#8, []⟩ ∧ isRequestType 0x02#8 = true
        ∧ State.reset.ctl.mode = .init)
      ∧ ((asked ⟨0x01#8, [0#8]⟩ State.reset).readyFor ⟨0x01#8, [0#8]⟩ ∧ requestLength 0x01#8 = 0)
      ∧ ((asked ⟨0x07#8, []⟩ bay).readyFor ⟨0x07#8, []⟩ ∧ requestLength 0x07#8 = 160)
      ∧ ({ bay with link := { bay.link with
          outgoing := [.response 0x01#8 .done []] } } : State).link.responseWaiting = true
      ∧ ((asked ⟨0x02#8, []⟩ bay).link.intake.head? = some ⟨0x02#8, []⟩
        ∧ (⟨0x02#8, []⟩ : Frame) ≠ ⟨0x01#8, []⟩) := by decide +kernel

theorem witness_ReadRequestsAnswer :
    (asked ⟨0x01#8, []⟩ State.reset).readyFor ⟨0x01#8, []⟩ ∧ bay.ctl.mode ≠ .init
      ∧ (asked ⟨0x02#8, []⟩ bay).readyFor ⟨0x02#8, []⟩
      ∧ (asked ⟨0x04#8, []⟩ bay).readyFor ⟨0x04#8, []⟩
      ∧ (asked ⟨0x03#8, [1#8]⟩ bay).readyFor ⟨0x03#8, [1#8]⟩
      ∧ bay.peers.entryIn 1 = some (peer 21#8 .stale 0x0421#16 .occupied)
      ∧ (asked ⟨0x03#8, [23#8]⟩ bay).readyFor ⟨0x03#8, [23#8]⟩ ∧ bay.peers.entryIn 23 = none
      ∧ (asked ⟨0x03#8, [24#8]⟩ bay).readyFor ⟨0x03#8, [24#8]⟩ := by decide +kernel

theorem witness_ClearsUrgencyAirResetRestart :
    bay.ctl.mode ≠ .init ∧ (asked ⟨0x05#8, []⟩ bay).readyFor ⟨0x05#8, []⟩
      ∧ (asked ⟨0x06#8, []⟩ bay).readyFor ⟨0x06#8, []⟩
      ∧ (asked ⟨0x0B#8, [3#8]⟩ bay).readyFor ⟨0x0B#8, [3#8]⟩
      ∧ (asked ⟨0x0B#8, [4#8]⟩ bay).readyFor ⟨0x0B#8, [4#8]⟩
      ∧ (asked ⟨0x10#8, []⟩ bay).readyFor ⟨0x10#8, []⟩
      ∧ (asked ⟨0x13#8, []⟩ bay).readyFor ⟨0x13#8, []⟩ := by decide +kernel

/-! ### Hypotheses: route, start and modes -/

/-- A slot of a route block with no cap, stop or crane sequence. -/
def plainSlot (cell : CellId) (length : Nat) : List Byte :=
  bytesOfHalf cell ++ bytes16 length ++ [0#8, 0#8, 0xFF#8, 0xFF#8, 0#8, 0#8]

/-- A route block of one real slot. -/
def oneBlock (cell : CellId) (length : Nat) : List Byte :=
  plainSlot cell length ++ (List.replicate 15 (plainSlot noCell 0)).flatten

/-- Blocks that are refused at each check, and one that is taken. -/
theorem witness_AppendRouteChecksAndAppends :
    (bay.ctl.mode ≠ .init ∧ (oneBlock 0x0109#16 300).length = 160
        ∧ (asked ⟨0x07#8, oneBlock 0x0109#16 300⟩ bay).readyFor ⟨0x07#8, oneBlock 0x0109#16 300⟩)
      ∧ bay.blockRefusal (routeSlots (oneBlock 0x0109#16 300)) = none
      ∧ bay.blockRefusal (routeSlots (oneBlock 0x0109#16 299)) = some .malformed
      ∧ bay.blockRefusal (routeSlots (oneBlock noCell 300)) = some .malformed
      ∧ bay.blockRefusal (routeSlots (oneBlock 0x0104#16 300)) = some .routeRepeat
      ∧ ({ bay with route := { bay.route with nextIndex := 65536 } } : State).blockRefusal
        (routeSlots (oneBlock 0x0109#16 3000)) = some .routeFull
      ∧ ({ bay with route := { bay.route with state := .truncating } } : State).blockRefusal
        (routeSlots (oneBlock 0x0109#16 3000)) = some .busy
      ∧ bay.pos.pos = some ⟨5, 280⟩ ∧ bay.route.entry? 5 = some (lane 0x0105#16 1200)
      ∧ (let longer : RouteStore := ⟨bay.route.entries ++ [lane 0x0109#16 300], 10, .active⟩
        longer.carryOn ⟨8, 799⟩ = ⟨8, 799⟩ ∧ longer.carryOn ⟨8, 800⟩ ≠ ⟨8, 800⟩) := by
  decide +kernel

theorem witness_TruncateRouteKeepsWhatIsCommitted :
    (bay.ctl.mode ≠ .init ∧ (asked ⟨0x08#8, []⟩ bay).readyFor ⟨0x08#8, []⟩
        ∧ bay.route.state = .active ∧ bay.pos.start = true ∧ bay.pos.pos = some ⟨5, 280⟩
        ∧ bay.front? = some 1500)
      ∧ (listening.ctl.mode ≠ .init ∧ (asked ⟨0x08#8, []⟩ listening).readyFor ⟨0x08#8, []⟩
        ∧ listening.pos.start = false ∧ listening.route.state = .active)
      ∧ (({ listening with route := .reset } : State).route.state = .empty)
      ∧ ({ bay with route := { bay.route with state := .truncating } } : State).route.state
        = .truncating := by decide +kernel

theorem witness_ProceedReleasesFirstStopPoint :
    (withStop.ctl.mode ≠ .init ∧ withStop.ctl.mode ≠ .listen
        ∧ (asked ⟨0x09#8, []⟩ withStop).readyFor ⟨0x09#8, []⟩
        ∧ withStop.route.entries = bay.route.entries.take 3
          ++ { lane 0x1107#16 800 with stop := some 799 } :: [lane 0x1108#16 800]
        ∧ ∀ x ∈ bay.route.entries.take 3, x.stop = none)
      ∧ (asked ⟨0x09#8, []⟩ listening).readyFor ⟨0x09#8, []⟩ ∧ listening.ctl.mode = .listen
      ∧ (asked ⟨0x09#8, []⟩ bay).readyFor ⟨0x09#8, []⟩ ∧ ∀ e ∈ bay.route.entries, e.stop = none := by
  decide +kernel

/-- SET_START at entry 5, offset 280, is accepted; at entry 9, and at the end of the route, it is not. -/
theorem witness_SetStartMakesStartClaims :
    (listening.ctl.mode = .listen ∧ listening.pos.start = false ∧ listening.route.state ≠ .empty
        ∧ (asked ⟨0x0A#8, [5#8, 1#8, 24#8]⟩ listening).readyFor ⟨0x0A#8, [5#8, 1#8, 24#8]⟩
        ∧ listening.startRefusal 5 280 = none ∧ listening.claims.list = [])
      ∧ ((asked ⟨0x0A#8, [9#8, 0#8, 0#8]⟩ listening).readyFor ⟨0x0A#8, [9#8, 0#8, 0#8]⟩
        ∧ listening.route.entry? 9 = none ∧ listening.startRefusal 9 0 = some .badPosition)
      ∧ listening.route.total = 5200 ∧ listening.startRefusal 8 700 = some .badPosition
      ∧ listening.startRefusal 8 699 = none
      ∧ listening.startRefusal 4 1149 = some .rearOutside
      ∧ listening.startRefusal 4 1150 = none
      ∧ ((asked ⟨0x0A#8, [5#8, 1#8, 24#8]⟩ bay).readyFor ⟨0x0A#8, [5#8, 1#8, 24#8]⟩
        ∧ bay.ctl.mode ≠ .listen)
      ∧ ({ listening with route := .reset } : State).startRefusal 0 0 = some .noRoute := by
  decide +kernel

/-- A start claim's cell that a peer lists, or none; the listen period done, or running; another cause. -/
theorem witness_SetStartConflictAndModes :
    let f : Frame := ⟨0x0A#8, [5#8, 1#8, 24#8]⟩
    let set (s : State) : State := after (.setStart f.payload) (asked f s)
    let met : State := { listening with peers := ⟨some (peer 20#8 .fresh 0x0105#16 .held)
      :: List.replicate 23 none, none⟩ }
    let done (s : State) : State := { s with ctl := { s.ctl with listenFrom := none, listenDone := true } }
    (∃ c ∈ (set met).reserved, met.peers.blocked c.cell = true)
      ∧ (∀ c ∈ (set listening).reserved, listening.peers.blocked c.cell = false)
      ∧ listening.ctl.listenDone = false ∧ (done listening).ctl.listenDone = true
      ∧ (∀ c ∈ Cause.all, listening.ctl.causes.has c = false)
      ∧ (set met).ctl.mode = .listen ∧ (set (done met)).ctl.mode = .stopped
      ∧ (set (done listening)).ctl.mode = .serving
      ∧ listening.route.ok ∧ listening.pos.speed = 0
      ∧ silent.has .driveSilent = true ∧ Cause.driveSilent ≠ .startConflict := by decide +kernel

theorem witness_ParkGivesBackReservations :
    ((asked ⟨0x0C#8, []⟩ rest).readyFor ⟨0x0C#8, []⟩ ∧ rest.ctl.mode = .serving
        ∧ rest.pos.speed = 0)
      ∧ ((asked ⟨0x0C#8, []⟩ bay).readyFor ⟨0x0C#8, []⟩ ∧ bay.ctl.mode = .serving
        ∧ bay.pos.speed ≠ 0)
      ∧ ((asked ⟨0x0C#8, []⟩ listening).readyFor ⟨0x0C#8, []⟩ ∧ listening.ctl.mode ≠ .init
        ∧ listening.ctl.mode ≠ .serving) := by decide +kernel

theorem witness_UnparkEntersServing :
    ((asked ⟨0x0D#8, []⟩ (inMode .parked rest)).readyFor ⟨0x0D#8, []⟩
        ∧ (inMode .parked rest).ctl.mode = .parked ∧ (inMode .parked rest).pos.speed = 0
        ∧ (inMode .parked rest).frontStands ∧ (inMode .parked rest).link.outstanding = [])
      ∧ ((inMode .parked atStart).frontStands ∧ ∀ c ∈ (inMode .parked atStart).claims.list, c.index ≠ 7)
      ∧ ((asked ⟨0x0D#8, []⟩ (inMode .parked bay)).readyFor ⟨0x0D#8, []⟩
        ∧ (inMode .parked bay).pos.speed = 600)
      ∧ (asked ⟨0x0D#8, []⟩ bay).readyFor ⟨0x0D#8, []⟩ ∧ bay.ctl.mode ≠ .parked := by decide +kernel

/-- A satisfied set, with the listen period done and not done, and a set with an active cause. -/
theorem witness_ResumeClearsCauses :
    let s := stoppedWith silent (some .driveSilent)
    ((asked ⟨0x0E#8, []⟩ s).readyFor ⟨0x0E#8, []⟩ ∧ s.ctl.mode = .stopped ∧ s.pos.speed = 0
        ∧ (∀ c ∈ Cause.all, s.ctl.causes.has c = true → s.satisfied c = true)
        ∧ s.ctl.listenDone = true ∧ s.frontStands)
      ∧ ({ s with ctl := { s.ctl with listenDone := false } } : State).ctl.listenDone = false
      ∧ ({ s with pos := { s.pos with speed := 1 } } : State).pos.speed ≠ 0
      ∧ (stoppedWith { silent with duplicateId := true } (some .driveSilent)).satisfied .duplicateId
        = false
      ∧ (asked ⟨0x0E#8, []⟩ bay).readyFor ⟨0x0E#8, []⟩ ∧ bay.ctl.mode ≠ .stopped
      ∧ (inMode .stopped atStart).frontStands
      ∧ s.satisfied .overrun = true ∧ (inMode .stopped bay).satisfied .overrun = false := by
  decide +kernel

theorem witness_ClearPeerRemovesStaleEntry :
    bay.ctl.mode ≠ .init ∧ (asked ⟨0x0F#8, [21#8]⟩ bay).readyFor ⟨0x0F#8, [21#8]⟩
      ∧ bay.peers.slots[1]? = some (some (peer 21#8 .stale 0x0421#16 .occupied))
      ∧ bay.peers.slots[0]? = some (some (peer 20#8 .fresh 0x0420#16 .held))
      ∧ (asked ⟨0x0F#8, [20#8]⟩ bay).readyFor ⟨0x0F#8, [20#8]⟩
      ∧ (asked ⟨0x0F#8, [22#8]⟩ bay).readyFor ⟨0x0F#8, [22#8]⟩
      ∧ ∀ e ∈ bay.peers.entries, e.id ≠ 22#8 := by decide +kernel

theorem witness_ConfigurationRequestsStoreClamped :
    let f : Frame := ⟨0x11#8, [15#8, 0#8, 0#8, 0#8, 80#8]⟩
    ((asked f listening).readyFor f ∧ listening.ctl.mode = .listen
        ∧ (15#8 : Byte).toNat = ParamId.all.idxOf ParamId.fixTol + 1 ∧ ParamId.fixTol ≠ .linkRate
        ∧ listening.pos.start = false
        ∧ (raiseFloors (listening.config.params.put 80 .fixTol)).1.listenMs
          = listening.config.params.listenMs)
      ∧ 17 < (18#8 : Byte).toNat
      ∧ ((asked f bay).readyFor f ∧ bay.ctl.mode ≠ .init ∧ bay.ctl.mode ≠ .listen)
      ∧ ((asked ⟨0x12#8, [15#8, 0#8, 49#8, 1#8, 7#8, 208#8]⟩ listening).readyFor
          ⟨0x12#8, [15#8, 0#8, 49#8, 1#8, 7#8, 208#8]⟩
        ∧ (7#8 ++ 208#8 : Half).toNat = 2000)
      ∧ 15 < (16#8 : Byte).toNat := by decide +kernel

/-- SET_PARAM after start: the vehicle longer than the way behind it, the distance since fix above the new
FIX_GAP_MAX, other peer times, and a LISTEN_MS that has and has not passed. -/
theorem witness_SetParamAtOnce : started.config.ok ∧ (
    let put (p : ParamId) (v : Nat) : Params := (raiseFloors (started.config.params.put v p)).1
    let as (p : ParamId) (v : Nat) : State :=
      { started with config := { started.config with params := put p v } }
    (started.ctl.mode = .listen ∧ started.pos.start = true ∧ started.claimsOk
        ∧ started.peers.slots.length = 24
        ∧ started.link.notices.length + started.peers.entries.length ≤ 8)
      ∧ ((put .vehicleLength 1500).vehicleLength ≠ started.config.params.vehicleLength
        ∧ (as .vehicleLength 1500).rear? = some (-40))
      ∧ (started.pos.sinceFix ≤ started.config.params.fixGapMax
        ∧ (put .fixGapMax 999).fixGapMax < started.pos.sinceFix)
      ∧ ((put .peerExpire 5000).peerExpire ≠ started.config.params.peerExpire
        ∧ 0 + (put .peerExpire 5000).peerExpire = started.now)
      ∧ (started.ctl.listenFrom = some 3000
        ∧ 3000 + (put .listenMs 1999).listenMs < started.now
        ∧ started.now < 3000 + (put .listenMs 2001).listenMs)) :=
  ⟨by decide +kernel, by decide +kernel⟩

/-! ### Hypotheses: the transmitter, the air port and the timers -/

/-- `bay` with a frame in the transmitter and the given items waiting. -/
def sending (x : OutItem) (xs : List OutItem) : State :=
  { bay with link := { bay.link with transmitting := some x, outgoing := xs } }

theorem witness_TransmitterTakesOldestItem :
    (({ bay with config := { bay.config with pendingRate := some .b921600 } } : State).held = false
        ∧ bay.link.transmitting = none)
      ∧ (OutItem.response 0x13#8 .done []).isRestartDone = true
      ∧ (OutItem.response 0x01#8 .done []).isRestartDone = false
      ∧ (sending (.response 0x01#8 .done []) [.notice (.mutualBlock 20#8 false)]).held = false
      ∧ (sending (.response 0x01#8 .done []) []).link.restartDue = false
      ∧ (sending (.response 0x01#8 .done []) []).config.pendingRate = none := by decide +kernel

/-- An unsent AUTHORITY message last, none, and a full outstanding list. -/
theorem witness_IssueOfAuthority :
    let m := bay.authorityMessage
    (sending (.authority m) [.notice (.mutualBlock 20#8 false), .authority m]).link.outgoing
        = [.notice (.mutualBlock 20#8 false)] ++ [.authority m]
      ∧ (∀ x ∈ ([] : List OutItem).getLast?, x.isAuthority = false)
      ∧ bay.link.outgoing = [] ∧ bay.ctl.mode = .serving ∧ bay.link.outstanding.length < 2
      ∧ 2 ≤ [Outstanding.mk 1#8 4900, Outstanding.mk 2#8 4950].length
      ∧ listening.ctl.mode ≠ .serving := by decide +kernel

/-- The carrier can stop within its record; it cannot after a report too fast (section 6.6). -/
theorem witness_AuthorityPeriodRecomputes :
    (bay.held = false ∧ bay.link.authTimer = some 5000 ∧ 5000 ≤ bay.now ∧ bay.noticesComplete
        ∧ bay.ctl.mode = .serving ∧ bay.computeAuthority.2 = false
        ∧ bay.config.params.stopping bay.pos.speed ≤ bay.computeAuthority.1.length)
      ∧ (({ bay with pos := { bay.pos with speed := 900 } } : State).computeAuthority.1.length
        < bay.config.params.stopping 900)
      ∧ listening.link.authTimer = some 5000 ∧ listening.now = 5000 ∧ listening.noticesComplete
      ∧ listening.ctl.mode ≠ .serving := by decide +kernel

theorem witness_BeaconTimerBuildsOrSkips :
    bay.held = false ∧ bay.beacon.timer = some 5000 ∧ 5000 ≤ bay.now ∧ bay.ctl.mode = .serving
      ∧ bay.beacon.inFlight = none ∧ (inFlight bay).beacon.inFlight ≠ none
      ∧ (inMode .parked rest).ctl.mode = .parked ∧ (inMode .parked rest).beacon.parkedCount < 2
      ∧ (inMode .parked rest).beacon.timer = some 5000
      ∧ 2 ≤ ({ bay.beacon with parkedCount := 2 } : BeaconUnit).parkedCount := by decide +kernel

theorem witness_TxDoneSettlesBeacon :
    ((inFlight bay).held = false ∧ (inFlight bay).ctl.mode ≠ .init ∧ (inFlight bay).beacon.rx = []
        ∧ (inFlight bay).noticesComplete
        ∧ (inFlight bay).beacon.inFlight = some ⟨3#8, 4800, [8], false⟩)
      ∧ ([4#8, 0#8] : List Byte).head? ≠ some 3#8
      ∧ ([3#8, 2#8] : List Byte).getLast? ≠ some 0#8 ∧ ([3#8, 2#8] : List Byte).getLast? ≠ some 1#8 := by
  decide +kernel

/-- The failure count below the limit, and at it. -/
theorem witness_BeaconFailureCountsAndRaises :
    ((inFlight bay).held = false ∧ (inFlight bay).noticesComplete ∧ 4800 + 150 ≤ (inFlight bay).now
        ∧ min 255 ((inFlight bay).beacon.failures + 1) < (inFlight bay).config.params.airFailLimit)
      ∧ bay.config.params.airFailLimit ≤ min 255 (4 + 1) := by decide +kernel

/-- A beacon of station `id` with a sequence, as another station builds it. -/
def heard (id seq : Byte) : List Byte :=
  beaconPayload id seq .serving 0 0 0x0430#16 0 0 [claimField 0x0430#16 .held none]

/-- The checks of a received frame, its outcomes at `bay`. -/
theorem witness_ReceivedBeaconUpdatesPeerTable :
    (bay.held = false ∧ bay.ctl.mode ≠ .init ∧ bay.beacon.rx = [] ∧ bay.noticesComplete
        ∧ (heard 30#8 0#8).length ≤ 250)
      ∧ readBeacon [] = none
      ∧ ((readBeacon (heard 251#8 0#8)).bind fun b => checkBeacon b 5000) = none
      ∧ ((readBeacon (heard 30#8 0#8)).bind fun b => checkBeacon b 5000).map (·.id) = some 30#8
      ∧ ((readBeacon (heard 9#8 0#8)).bind fun b => checkBeacon b 5000).map (·.id) = some 9#8
      ∧ bay.peers.slotOf 30#8 = none ∧ bay.peers.emptySlot = some 2
      ∧ bay.peers.slotOf 20#8 = some 0 ∧ bay.peers.slotOf 21#8 = some 1
      ∧ (137#8 - 10#8 : Byte).toNat = 127 ∧ (138#8 - 10#8 : Byte).toNat = 128 := by decide +kernel

/-- A full table, all FRESH, and one with a STALE entry. -/
theorem witness_ReceivedBeaconFullTable :
    let full (age : AgeState) : PeerTable :=
      ⟨some (peer 100#8 age 0x0430#16 .held) :: (List.range 23).map fun k =>
        some (peer (byteOf (101 + k)) .fresh 0x0431#16 .held), none⟩
    (full .stale).emptySlot = none ∧ (full .stale).slotOf 30#8 = none
      ∧ (full .stale).slots[0]? = some (some (peer 100#8 .stale 0x0430#16 .held))
      ∧ (∀ x ∈ (full .stale).slots, ∀ e ∈ x, e.age = .stale → e.id = 100#8)
      ∧ (full .fresh).emptySlot = none ∧ ∀ x ∈ (full .fresh).entries, x.age = .fresh := by
  decide +kernel

theorem witness_OtherModemFramesAreRejected :
    bay.held = false ∧ bay.noticesComplete ∧ bay.ctl.mode ≠ .init ∧ bay.beacon.rx = []
      ∧ (0x04#8 : Byte) ≠ 0x02#8 ∧ (0x04#8 : Byte) ≠ 0x03#8 ∧ (0x04#8 : Byte) ≠ 0x3C#8
      ∧ 250 < (251#8 : Byte).toNat ∧ State.reset.held = false ∧ State.reset.noticesComplete
      ∧ State.reset.ctl.mode = .init := by decide +kernel

/-- The window of a read at position (5, 280): entries 4 to 7. -/
theorem witness_TransponderReadIsSorted :
    (bay.held = false ∧ bay.readerRx = [] ∧ bay.noticesComplete ∧ bay.ctl.mode ≠ .init
        ∧ bay.pos.start = true ∧ bay.pos.pos = some ⟨5, 280⟩ ∧ bay.pos.offRoute = 0)
      ∧ bay.route.indexOfCell 0x0104#16 = some 4 ∧ bay.route.indexOfCell 0x1107#16 = some 7
      ∧ bay.route.indexOfCell 0x1108#16 = some 8
      ∧ (∀ e ∈ bay.route.entries, e.cell ≠ 0x0420#16)
      ∧ bay.route.startOf 4 < bay.config.params.vehicleLength
      ∧ listening.pos.start = false ∧ listening.ctl.mode ≠ .init ∧ listening.readerRx = []
      ∧ State.reset.ctl.mode = .init := by decide +kernel

theorem witness_ExternalEdgeRaisesExternal :
    (bay.held = false ∧ bay.noticesComplete ∧ bay.ctl.mode = .serving ∧ bay.ctl.external = false
        ∧ bay.ctl.causes.external = false)
      ∧ ({ bay with ctl := { bay.ctl with external := true } } : State).ctl.external = true
      ∧ State.reset.held = false ∧ State.reset.noticesComplete ∧ State.reset.ctl.mode = .init
      ∧ listening.ctl.mode = .listen ∧ listening.pos.start = false
      ∧ listening.ctl.external = false := by decide +kernel

/-- Supervision at its limit: SUPERVISE_MS is 250. -/
theorem witness_SupervisionExpiryStops :
    let s : State := { bay with link := { bay.link with outstanding := [⟨1#8, 4750⟩] } }
    s.held = false ∧ s.noticesComplete ∧ s.ctl.mode = .serving
      ∧ s.link.outstanding = ⟨1#8, 4750⟩ :: []
      ∧ 4750 + s.config.params.superviseMs = s.now ∧ s.ctl.causes.driveSilent = false := by
  decide +kernel

/-- The listen timer at its limit: LISTEN_MS is 2000; before start, and after it with and without a
cause. -/
theorem witness_ListenTimerEndsListenPeriod :
    let after (k : CauseSet) : State := { listening with
      pos := rest.pos, claims := (inMode .listen rest).claims
      ctl := { listening.ctl with causes := k } }
    (listening.held = false ∧ listening.noticesComplete ∧ listening.ctl.listenFrom = some 3000
        ∧ 3000 + listening.config.params.listenMs = listening.now ∧ listening.pos.start = false)
      ∧ ((after .none).ctl.mode = .listen ∧ (after .none).pos.start = true
        ∧ (after .none).ctl.causes.isEmpty = true ∧ (after .none).pos.speed = 0
        ∧ (after .none).frontStands)
      ∧ (after { CauseSet.none with startConflict := true }).ctl.causes.isEmpty = false := by
  decide +kernel

/-- A yield window at its limit whose claim can, and cannot, be promoted; an entry hold at its limit. -/
theorem witness_ClaimTimersExpire :
    let c : Claim := { own 8 0x1108#16 .tentative with yieldTimer := some 5000 }
    let h : Claim := { own 7 0x1107#16 .held with holdTimer := some 5000 }
    let timed (c : Claim) : State :=
      { bay with claims := { bay.claims with list := bay.claims.list.take 3 ++ [h, c] } }
    ((timed c).held = false ∧ (timed c).noticesComplete ∧ (timed c).claimsOk
        ∧ (timed c).claims.list = bay.claims.list.take 3 ++ h :: [c]
        ∧ (timed c).claims.list = (bay.claims.list.take 3 ++ [h]) ++ c :: []
        ∧ c.yieldTimer = some 5000 ∧ (timed c).now = 5000 ∧ h.holdTimer = some 5000)
      ∧ (timed c).promotable 0 (bay.claims.list.take 3 ++ [h]).getLast? c = true
      ∧ (timed { c with announce := 1 }).claimsOk
      ∧ (timed { c with announce := 1 }).promotable 0 (bay.claims.list.take 3 ++ [h]).getLast?
          { c with announce := 1 } = false := by
  decide +kernel

/-- Backoff and hold at their limit; an entry silent for more than PEER_STALE, and for PEER_EXPIRE. -/
theorem witness_BackoffHoldAndPeerAgeing :
    (bay.held = false ∧ bay.noticesComplete
        ∧ ({ bay.claims with backoff := some 5000 } : ClaimEngine).backoff = some 5000
        ∧ ({ bay.peers with hold := some 5000 } : PeerTable).hold = some 5000 ∧ bay.now = 5000)
      ∧ (bay.peers.slots[0]? = some (some (peer 20#8 .fresh 0x0420#16 .held))
        ∧ 0 + bay.config.params.peerStale ≤ bay.now)
      ∧ (5000 < bay.config.params.peerExpire
        ∧ 0 + ({ bay with now := 20000 } : State).config.params.peerExpire
          = ({ bay with now := 20000 } : State).now) := by decide +kernel

/-- R79: PEER_STALE and PEER_EXPIRE both 5000, the entry not heard for as long: one step removes it. -/
theorem test_stale_and_expired_at_once :
    let s : State := { bay with config := { bay.config with
      params := { bay.config.params with peerStale := 5000, peerExpire := 5000, listenMs := 5000 } } }
    let t := after (.peerStale 0) s
    Instr.peerStale 0 ∉ s.due ∧ .peerExpire 0 ∈ s.due ∧ t.peers.slots[0]? = some none
      ∧ OutItem.notice (.peerLost 20#8 0 false) ∈ t.link.order := by decide +kernel

/-- R173, R174: the later pair counts and is clamped; the raises in order, PEER_STALE before LISTEN_MS. -/
theorem test_pairs_and_floors :
    let ps := applyPairs (Params.defaults ⟨9#8, 0#2, 0#2⟩) [(.beaconPeriod, 100), (.beaconPeriod, 501), (.listenMs, 500)]
    ps.1.beaconPeriod = 500 ∧ ps.2 = true
      ∧ (raiseFloors ps.1).1.yieldWindow = 1090 ∧ (raiseFloors ps.1).1.peerStale = 1590
      ∧ (raiseFloors ps.1).1.listenMs = 1590 := by decide +kernel

/-- R175: a change to the rate in force leaves the frame under reception; another rate cuts it. -/
theorem test_equal_rate_cuts_nothing :
    let s : State := { bay with link := { bay.link with rx := [0xA5#8] } }
    (s.changeRate s.config.linkRate).link.rxCut = false
      ∧ (s.changeRate .b921600).link.rxCut = decide (LinkRate.b921600 ≠ s.config.linkRate) := by
  decide +kernel

/-- R129: the modem is handed the TX_FRAME of the beacon, its tag the sequence. -/
theorem test_beacon_handed :
    let t := after .beaconTimerExpiry bay
    (t.beacon.handed.map fun f => (f.take 4, f.length)) = some ([0x3C#8, 0x01#8, 41#8, 0#8], 44) := by
  decide +kernel

/-! ### Commands -/

/-- R168, R143, R144: supervision expiry leaves the HELD claims and drops the TENTATIVE one. -/
theorem test_supervision_stops :
    let t := after .supervisionExpiry { bay with link := { bay.link with
      outstanding := [⟨1#8, 4750⟩] } }
    t.ctl.mode = .stopped ∧ t.ctl.line = .asserted ∧ t.claims.list.length = 4
      ∧ t.ctl.first = some .driveSilent := by decide +kernel

/-- Section 6.6: a truncation keeps entries 4 to 6 and gives length 1900, ceiling 695. -/
theorem test_truncate_of_66 :
    let t := after (.truncateRoute []) bay
    t.route.entries.length = 3 ∧ t.auth.length = 1900 ∧ t.auth.ceiling = 695
      ∧ t.link.lastResult = some (0x08#8, .accepted) := by decide +kernel

/-- Section 6.6: a report of 30 cm at 900 cm/s is an overrun. -/
theorem test_report_too_fast_of_66 :
    let p : List Byte := [0#8, 0#8, 30#8, 0x03#8, 0x84#8]
    let t := after (.driveReport p (crc16 (0x20#8 :: 5#8 :: p))) bay
    t.ctl.mode = .stopped ∧ t.auth.overrun = true ∧ t.auth.length = 0
      ∧ t.auth.point = some ⟨5, 331⟩ ∧ t.claims.list.length = 4 := by decide +kernel

/-- R25, R51, R53, by hand: 940 cm on, the front bound is at 2459 in entry 6 and the rear bound at 1331, past
the end of entry 4. -/
theorem test_report_hands_the_move_on :
    let p : List Byte := [0#8, 0x03#8, 0xAC#8, 0x02#8, 0x58#8]
    let t := after (.driveReport p (crc16 (0x20#8 :: 5#8 :: p))) bay
    t.pos.pos = some ⟨6, 20⟩ ∧ t.route.first = 5
      ∧ (t.claims.list.map fun c => (c.index, c.state)).take 3
        = [(5, .occupied), (6, .occupied), (7, .held)]
      ∧ t.auth.length = 1741 ∧ t.ctl.mode = .serving := by decide +kernel

/-- R149: PARK at rest gives back the HELD and TENTATIVE claims. -/
theorem test_park_at_rest :
    (after (.park []) rest).ctl.mode = .parked ∧ (after (.park []) rest).claims.list.length = 2 := by
  decide +kernel

/-- R31, R32: the transponder of entry 6 read at (5, 280) is a fix there, by hand: 920 cm ahead, beyond
u 20 and FIX_TOL 50. -/
theorem test_fix_at_next_entry :
    let t := after (.transponderRead (readerFrame 0x0106#16)) rest
    t.pos.pos = some ⟨6, 0⟩ ∧ t.pos.u = 0 ∧ t.link.latched.fixDisagreement = true := by decide +kernel

/-- R132, R46: a confirmation announces the claim that the snapshot lists. -/
theorem test_confirmation_announces :
    let s := inFlight { bay with claims := { bay.claims with list := bay.claims.list.take 4
      ++ [{ own 8 0x1108#16 .tentative with announce := 0, firstAnnounce := none }] } }
    let t := after (.txDone [3#8, 0#8]) s
    (t.claims.list.getLast?.map fun c => (c.announce, c.firstAnnounce, c.yieldTimer))
        = some (1, some 5000, some 5600)
      ∧ t.link.counters.beaconsSent = 1 := by decide +kernel

/-- Section 10.5: SET_PARAM LISTEN_MS 800 is raised to PEER_STALE and answered DONE_CLAMPED. -/
theorem test_set_param_raises :
    let t := after (.setParam [11#8, 0#8, 0#8, 3#8, 32#8]) { listening with
      config := { listening.config with params := { params66 with peerStale := 1030 } } }
    t.config.params.listenMs = 1030 ∧ t.link.lastResult = some (0x11#8, .doneClamped) := by
  decide +kernel

end Sys2Proof.Tests
end

/-!
PROOF. The Position Unit through the end of a fix and of a start, and the uncertainty (R22): what
follows the setting of the position in these two operations leaves the Position Unit alone.
-/

namespace Sys2Proof.Machine

/-! ### The uncertainty's formula (R22) -/

/-- The formula of R22, its rounding up written out. -/
theorem PositionUnit.u_eq (p : PositionUnit) : p.u = min 300 (p.base + (p.sinceFix + 49) / 50) := rfl

theorem PositionUnit.u_le_max (p : PositionUnit) : p.u ≤ 300 := Nat.min_le_left _ _

/-- Reported distance since the fix never lowers the uncertainty. -/
theorem PositionUnit.u_le_u_sinceFix_add (p : PositionUnit) (d : Nat) :
    p.u ≤ ({ p with sinceFix := p.sinceFix + d } : PositionUnit).u := by
  rw [PositionUnit.u_eq, PositionUnit.u_eq]
  dsimp only
  omega

/-- With no distance since the fix the uncertainty is its base, up to the cap. -/
theorem PositionUnit.u_of_sinceFix_zero {p : PositionUnit} (h : p.sinceFix = 0) :
    p.u = min 300 p.base := by
  rw [PositionUnit.u_eq, h, Nat.zero_add, Nat.div_eq_of_lt (by decide), Nat.add_zero]

/-! ### Operations that leave the Position Unit -/

@[simp] theorem State.queueNotice_pos (s : State) (n : Notice) : (s.queueNotice n).pos = s.pos := by
  obtain ⟨l, h⟩ := s.queueNotice_link n
  rw [h, State.setLink_pos]

theorem State.ite_count_pos (s : State) (k : Counter) (p : Prop) [Decidable p] :
    (if p then s.count k else s).pos = s.pos := by
  split
  · exact s.count_pos k
  · rfl

theorem State.ite_queueNotice_latch_pos (s : State) (f : Flag) (n : Notice) (p : Prop) [Decidable p] :
    (if p then (s.latch f).queueNotice n else s).pos = s.pos := by
  split
  · rw [State.queueNotice_pos, State.latch_pos]
  · rfl

@[simp] theorem State.claimAhead_pos (s : State) : s.claimAhead.pos = s.pos := by
  obtain ⟨new, h, -⟩ := s.claimAhead_spec
  rw [h, State.setClaims_pos]

@[simp] theorem State.recordCause_pos (s : State) (c : Cause) : (s.recordCause c).pos = s.pos := by
  obtain ⟨m, l, h, -⟩ := s.recordCause_spec c
  rw [h, State.setLink_pos, State.setCtl_pos]

@[simp] theorem Work.positionChange_pos (w : Work) : w.positionChange.s.pos = w.s.pos := by
  rw [w.positionChange_frame.1, State.setRoute_pos, State.setClaims_pos]

@[simp] theorem Work.enterStopped_pos (w : Work) : w.enterStopped.s.pos = w.s.pos := by
  obtain ⟨l, h, -⟩ := w.enterStopped_spec
  rw [h, State.dropTentative_pos, State.setMode_pos, State.setLink_pos]

@[simp] theorem Work.enterServing_pos (w : Work) : w.enterServing.s.pos = w.s.pos :=
  State.claimAhead_pos _

/-- Leaving LISTEN (R142) enters STOPPED or SERVING or does nothing. -/
theorem Work.listenExit_cases (w : Work) :
    w.listenExit = w ∨ w.listenExit = w.enterStopped ∨ w.listenExit = w.enterServing := by
  unfold Work.listenExit
  split
  · split
    · exact .inr (.inl rfl)
    · split
      · split
        · exact .inr (.inr rfl)
        · exact .inr (.inl rfl)
      · exact .inl rfl
  · exact .inl rfl

@[simp] theorem Work.listenExit_pos (w : Work) : w.listenExit.s.pos = w.s.pos := by
  obtain h | h | h := w.listenExit_cases
  · rw [h]
  · rw [h, Work.enterStopped_pos]
  · rw [h, Work.enterServing_pos]

/-- A raise records its cause, and then leaves LISTEN, enters STOPPED or is done, by the mode (R143). -/
theorem Work.raise_cases (w : Work) (c : Cause) :
    w.raise c = w.on (·.recordCause c) ∨ w.raise c = (w.on (·.recordCause c)).listenExit
      ∨ w.raise c = (w.on (·.recordCause c)).enterStopped := by
  unfold Work.raise
  dsimp only
  split
  · exact .inl rfl
  · exact .inr (.inl rfl)
  · exact .inr (.inr rfl)
  · exact .inr (.inr rfl)
  · exact .inl rfl

@[simp] theorem Work.raise_pos (w : Work) (c : Cause) : (w.raise c).s.pos = w.s.pos := by
  have recorded : (w.on (·.recordCause c)).s.pos = w.s.pos := w.s.recordCause_pos c
  obtain h | h | h := w.raise_cases c
  · rw [h, recorded]
  · rw [h, Work.listenExit_pos, recorded]
  · rw [h, Work.enterStopped_pos, recorded]

theorem Work.ite_raise_pos (w : Work) (c : Cause) (p : Prop) [Decidable p] :
    (if p then w.raise c else w).s.pos = w.s.pos := by
  split
  · exact w.raise_pos c
  · rfl

@[simp] theorem addStartClaims_pos (n i : Nat) (s : State) : (addStartClaims n i s).pos = s.pos := by
  induction n generalizing i s with
  | zero => rfl
  | succ n ih =>
    unfold addStartClaims
    split
    · rfl
    · rw [ih, State.addClaim_pos]

@[simp] theorem State.startClaims_pos (s : State) : s.startClaims.pos = s.pos := by
  unfold State.startClaims
  split
  · split
    · rw [State.setRoute_pos, addStartClaims_pos]
    · rfl
  · rfl

/-! ### The Position Unit after a fix and after a start -/

/-- A fix at entry `j` (R32): the position is its start, base and distance since fix are 0. -/
theorem Work.fix_pos (w : Work) (cell : CellId) (p : RoutePos) (j : Nat) :
    (w.fix cell p j).s.pos
      = { w.s.pos with pos := some ⟨j, 0⟩, base := 0, sinceFix := 0, offRoute := 0 } := by
  unfold Work.fix
  simp only [Work.on, State.setCtl_pos, Work.positionChange_pos, Work.ite_raise_pos,
    State.setPos_pos]
  rw [State.ite_queueNotice_latch_pos, State.ite_count_pos]

/-- An accepted SET_START (R37): the position it gives, with base START_UNC and distance since fix 0. -/
theorem Work.start_pos (w : Work) (index offset : Nat) :
    (w.start index offset).s.pos
      = { w.s.pos with
          start := true, pos := some ⟨index, offset⟩, base := w.s.config.params.startUnc
          sinceFix := 0, offRoute := 0 } := by
  unfold Work.start
  rw [Work.listenExit_pos, Work.ite_raise_pos, State.startClaims_pos, State.setPos_pos]

/-! ### Uncertainty after a fix and after a start; no bound without a position -/

theorem Work.fix_u (w : Work) (cell : CellId) (p : RoutePos) (j : Nat) :
    (w.fix cell p j).s.pos.u = 0 := by
  rw [w.fix_pos cell p j]
  exact PositionUnit.u_of_sinceFix_zero rfl

theorem Work.start_u (w : Work) (index offset : Nat) :
    (w.start index offset).s.pos.u = min 300 w.s.config.params.startUnc := by
  rw [w.start_pos index offset]
  exact PositionUnit.u_of_sinceFix_zero rfl

theorem State.posOk.pos_eq_none {s : State} (h : s.posOk) (hs : s.pos.start = false) :
    s.pos.pos = none := by
  obtain ⟨-, hstart⟩ := h
  rw [hs, if_neg Bool.false_ne_true] at hstart
  exact hstart.1

theorem State.bounds_none {s : State} (h : s.pos.pos = none) :
    s.front? = none ∧ s.rear? = none ∧ s.commit? = none := by
  have hfront : s.front? = none := by rw [State.front?, h, Option.map_none]
  exact ⟨hfront, by rw [State.rear?, h, Option.map_none],
    by rw [State.commit?, hfront, Option.map_none]⟩

/-- Settles O16: the formula's range and growth are arithmetic; a fix and a start leave the Position
Unit as they set it, whatever they raise and whatever mode they lead to. -/
theorem uncertaintyRule : Obligations.UncertaintyRule := by
  refine ⟨fun p => ⟨p.u_eq, p.u_le_max, p.u_le_u_sinceFix_add⟩, fun w cell p j => ?fixed,
    fun w i o h => ?started, fun _ h hs => h.pos_eq_none hs, fun _ h => State.bounds_none h⟩
  case fixed =>
    have hfix := w.fix_pos cell p j
    exact ⟨by rw [hfix], by rw [hfix], w.fix_u cell p j⟩
  case started => rw [w.start_u i o, Nat.min_eq_right h]

end Sys2Proof.Machine

/-!
PROOF. The Peer Table's answers (R67): what its entries are, when a cell is blocked, which peer claims
rival an own one, and that the age of an entry takes no part.
-/

namespace Sys2Proof.Machine

/-! ### The entries -/

theorem PeerTable.mem_entries {t : PeerTable} {e : PeerEntry} :
    e ∈ t.entries ↔ ∃ k : Nat, t.slots[k]? = some (some e) := by
  rw [PeerTable.entries, List.mem_filterMap, ← List.mem_iff_getElem?]
  constructor
  · rintro ⟨o, ho, rfl⟩
    exact ho
  · exact fun h => ⟨some e, h, rfl⟩

/-- A change made in every filled slot is one made to every entry. -/
theorem PeerTable.entries_map_slots (t : PeerTable) (f : PeerEntry → PeerEntry) :
    ({ t with slots := t.slots.map fun o => o.map f } : PeerTable).entries = t.entries.map f := by
  unfold PeerTable.entries
  rw [List.filterMap_map, List.map_filterMap]
  rfl

/-! ### Blocked cells -/

theorem PeerClaim.reserves_iff {p : PeerClaim} :
    p.reserves = true ↔ p.state = .held ∨ p.state = .occupied := by
  unfold PeerClaim.reserves
  cases p.state <;> decide

theorem PeerEntry.reserves_iff {e : PeerEntry} {cell : CellId} :
    e.reserves cell = true ↔
      ∃ p ∈ e.claims, p.cell = cell ∧ (p.state = .held ∨ p.state = .occupied) := by
  simp only [PeerEntry.reserves, List.any_eq_true, Bool.and_eq_true, beq_iff_eq,
    PeerClaim.reserves_iff]

theorem PeerTable.blocked_iff {t : PeerTable} {cell : CellId} :
    t.blocked cell = true ↔ ∃ e ∈ t.entries, e.reserves cell = true :=
  List.any_eq_true

/-! ### Rivals -/

theorem State.outranked_iff {s : State} {d : Nat} {c : Claim} :
    s.outranked d c = true ↔
      ∃ e ∈ s.peers.entries, ∃ p ∈ e.claims, p.cell = c.cell ∧ s.outrankedBy d c e p = true := by
  simp only [State.outranked, List.any_eq_true, Bool.and_eq_true, beq_iff_eq]

/-- Whether one claim outranks another is asked of the two claims, not of the table. -/
@[simp] theorem State.setPeers_outrankedBy (s : State) (t : PeerTable) (d : Nat) (c : Claim)
    (e : PeerEntry) (p : PeerClaim) :
    (s.setPeers t).outrankedBy d c e p = s.outrankedBy d c e p := rfl

/-- Of a peer claim and its entry, rank sees the fields of R84 alone. -/
theorem State.outrankedBy_congr (s : State) {d : Nat} {c : Claim} {e e' : PeerEntry} {p : PeerClaim}
    (h : e.ranked p = e'.ranked p) : s.outrankedBy d c e p = s.outrankedBy d c e' p := by
  rw [State.outrankedBy, State.outrankedBy, h]

/-! ### Changes of the entries that neither answer sees -/

/-- A change of the entries that leaves what each lists HELD or OCCUPIED leaves the blocked cells. -/
theorem PeerTable.blocked_map_slots (t : PeerTable) {f : PeerEntry → PeerEntry} {cell : CellId}
    (h : ∀ e, (f e).reserves cell = e.reserves cell) :
    ({ t with slots := t.slots.map fun o => o.map f } : PeerTable).blocked cell = t.blocked cell := by
  unfold PeerTable.blocked
  rw [t.entries_map_slots f, List.any_map]
  exact congrArg t.entries.any (funext h)

/-- A change of the entries that leaves their claim sets, and how their claims rank, leaves the answer
of condition 5 of R48. -/
theorem State.outranked_map_slots (s : State) {f : PeerEntry → PeerEntry} {d : Nat} {c : Claim}
    (hclaims : ∀ e, (f e).claims = e.claims) (hranked : ∀ e p, (f e).ranked p = e.ranked p) :
    (s.setPeers { s.peers with slots := s.peers.slots.map fun o => o.map f }).outranked d c
      = s.outranked d c := by
  unfold State.outranked
  rw [State.setPeers_peers, s.peers.entries_map_slots f, List.any_map]
  refine congrArg s.peers.entries.any (funext fun e => ?_)
  simp only [Function.comp_apply, hclaims, State.setPeers_outrankedBy,
    s.outrankedBy_congr (hranked e _)]

/-- Settles O20: both answers are read off the entries in the slots, and an entry's age is neither in
its claim set nor in the header that rank compares. -/
theorem blockedAndRivals : Obligations.BlockedAndRivals := by
  refine ⟨fun t cell => ?blocked, fun s d c => ?rivals, fun s ages d c => ?aged⟩
  case blocked =>
    rw [PeerTable.blocked_iff]
    constructor
    · rintro ⟨e, he, hres⟩
      obtain ⟨k, hk⟩ := PeerTable.mem_entries.mp he
      obtain ⟨p, hp⟩ := PeerEntry.reserves_iff.mp hres
      exact ⟨k, e, p, hk, hp⟩
    · rintro ⟨k, e, p, hk, hp⟩
      exact ⟨e, PeerTable.mem_entries.mpr ⟨k, hk⟩, PeerEntry.reserves_iff.mpr ⟨p, hp⟩⟩
  case rivals =>
    rw [State.outranked_iff]
    constructor
    · rintro ⟨e, he, p, hp⟩
      obtain ⟨k, hk⟩ := PeerTable.mem_entries.mp he
      exact ⟨k, e, p, hk, hp⟩
    · rintro ⟨k, e, p, hk, hp⟩
      exact ⟨e, PeerTable.mem_entries.mpr ⟨k, hk⟩, p, hp⟩
  case aged =>
    exact ⟨s.peers.blocked_map_slots fun _ => rfl,
      s.outranked_map_slots (fun _ => rfl) fun _ _ => rfl⟩

end Sys2Proof.Machine

/-!
PROOF. Rank (R83): what the first test that separates two claims answers, and that of two claims of
different stations exactly one outranks the other.
-/

namespace Sys2Proof.Machine

section
variable {crane : Bool} {a b : Ranked}

/-! ### The six tests -/

/-- Tests 1 and 3 separate two claims when exactly one of them has the state asked for. -/
theorem ClaimState.beq_ne_beq {x y z : ClaimState} :
    (x == z) ≠ (y == z) ↔ ¬ (x = z ↔ y = z) := by
  rw [ne_eq, Bool.eq_iff_iff, beq_iff_eq, beq_iff_eq]

/-- Test 2 separates two claims on a crane spot alone, by their sequences. -/
theorem craneTest_iff :
    (crane && craneRank a.crane != craneRank b.crane) = true
      ↔ ¬ (crane = false ∨ craneRank a.crane = craneRank b.crane) := by
  rw [Bool.and_eq_true, bne_iff_ne, not_or, Bool.not_eq_false]

/-- The table of R83 as one rule: each test is taken where the ones before it do not separate. -/
theorem outranks_iff :
    outranks crane a b = true ↔
      if ¬ (a.state = .occupied ↔ b.state = .occupied) then a.state = .occupied
      else if ¬ (crane = false ∨ craneRank a.crane = craneRank b.crane) then
        craneRank a.crane < craneRank b.crane
      else if ¬ (a.state = .held ↔ b.state = .held) then a.state = .held
      else if a.urgency ≠ b.urgency then b.urgency < a.urgency
      else if a.deferral ≠ b.deferral then b.deferral < a.deferral
      else a.id.toNat < b.id.toNat := by
  simp only [outranks, craneTest_iff, bne_iff_ne, ClaimState.beq_ne_beq, apply_ite (· = true),
    beq_iff_eq, decide_eq_true_eq]

theorem outranks_of_occupied (h1 : ¬ (a.state = .occupied ↔ b.state = .occupied)) :
    outranks crane a b = true ↔ a.state = .occupied := by
  rw [outranks_iff, if_pos h1]

theorem outranks_of_crane (h1 : a.state = .occupied ↔ b.state = .occupied)
    (h2 : ¬ (crane = false ∨ craneRank a.crane = craneRank b.crane)) :
    outranks crane a b = true ↔ craneRank a.crane < craneRank b.crane := by
  rw [outranks_iff, if_neg (not_not_intro h1), if_pos h2]

theorem outranks_of_held (h1 : a.state = .occupied ↔ b.state = .occupied)
    (h2 : crane = false ∨ craneRank a.crane = craneRank b.crane)
    (h3 : ¬ (a.state = .held ↔ b.state = .held)) :
    outranks crane a b = true ↔ a.state = .held := by
  rw [outranks_iff, if_neg (not_not_intro h1), if_neg (not_not_intro h2), if_pos h3]

/-- Where tests 1 to 3 do not separate two claims, their stations are compared. -/
theorem outranks_of_claims_alike (h1 : a.state = .occupied ↔ b.state = .occupied)
    (h2 : crane = false ∨ craneRank a.crane = craneRank b.crane)
    (h3 : a.state = .held ↔ b.state = .held) :
    outranks crane a b = true ↔
      if a.urgency ≠ b.urgency then b.urgency < a.urgency
      else if a.deferral ≠ b.deferral then b.deferral < a.deferral
      else a.id.toNat < b.id.toNat := by
  rw [outranks_iff, if_neg (not_not_intro h1), if_neg (not_not_intro h2), if_neg (not_not_intro h3)]

theorem outranks_of_urgency (h1 : a.state = .occupied ↔ b.state = .occupied)
    (h2 : crane = false ∨ craneRank a.crane = craneRank b.crane)
    (h3 : a.state = .held ↔ b.state = .held) (h4 : a.urgency ≠ b.urgency) :
    outranks crane a b = true ↔ b.urgency < a.urgency := by
  rw [outranks_of_claims_alike h1 h2 h3, if_pos h4]

theorem outranks_of_deferral (h1 : a.state = .occupied ↔ b.state = .occupied)
    (h2 : crane = false ∨ craneRank a.crane = craneRank b.crane)
    (h3 : a.state = .held ↔ b.state = .held) (h4 : a.urgency = b.urgency)
    (h5 : a.deferral ≠ b.deferral) :
    outranks crane a b = true ↔ b.deferral < a.deferral := by
  rw [outranks_of_claims_alike h1 h2 h3, if_neg (not_not_intro h4), if_pos h5]

theorem outranks_of_station (h1 : a.state = .occupied ↔ b.state = .occupied)
    (h2 : crane = false ∨ craneRank a.crane = craneRank b.crane)
    (h3 : a.state = .held ↔ b.state = .held) (h4 : a.urgency = b.urgency)
    (h5 : a.deferral = b.deferral) :
    outranks crane a b = true ↔ a.id.toNat < b.id.toNat := by
  rw [outranks_of_claims_alike h1 h2 h3, if_neg (not_not_intro h4), if_neg (not_not_intro h5)]

/-! ### Exactly one of the two -/

/-- Each test that separates two claims answers the opposite when they change places; between different
stations test 6 separates. -/
theorem outranks_iff_not_outranks (hid : a.id ≠ b.id) :
    outranks crane a b = true ↔ ¬ outranks crane b a = true := by
  by_cases h1 : a.state = .occupied ↔ b.state = .occupied
  case neg =>
    have h1' := mt Iff.symm h1
    rw [outranks_of_occupied h1, outranks_of_occupied h1']
    exact (Classical.not_iff.mp h1').symm
  by_cases h2 : crane = false ∨ craneRank a.crane = craneRank b.crane
  case neg =>
    rw [outranks_of_crane h1 h2, outranks_of_crane h1.symm (mt (Or.imp_right Eq.symm) h2)]
    omega
  have h2' := h2.imp_right Eq.symm
  by_cases h3 : a.state = .held ↔ b.state = .held
  case neg =>
    have h3' := mt Iff.symm h3
    rw [outranks_of_held h1 h2 h3, outranks_of_held h1.symm h2' h3']
    exact (Classical.not_iff.mp h3').symm
  by_cases h4 : a.urgency = b.urgency
  case neg =>
    rw [outranks_of_urgency h1 h2 h3 h4, outranks_of_urgency h1.symm h2' h3.symm (Ne.symm h4)]
    omega
  by_cases h5 : a.deferral = b.deferral
  case neg =>
    rw [outranks_of_deferral h1 h2 h3 h4 h5,
      outranks_of_deferral h1.symm h2' h3.symm h4.symm (Ne.symm h5)]
    omega
  have h6 : a.id.toNat ≠ b.id.toNat := mt BitVec.eq_of_toNat_eq hid
  rw [outranks_of_station h1 h2 h3 h4 h5,
    outranks_of_station h1.symm h2' h3.symm h4.symm h5.symm]
  omega

end

/-- Settles O19: each part is one row of R83's table, with the tests above it passed over. -/
theorem rankRule : Obligations.RankRule := by
  intro crane a b q
  have hq : q = fun x => craneRank x.crane := by
    funext ⟨_, k, _, _, _⟩
    cases k <;> rfl
  rw [hq]
  exact ⟨outranks_of_occupied, outranks_of_crane, outranks_of_held, outranks_of_urgency,
    outranks_of_deferral, outranks_of_station, outranks_iff_not_outranks⟩

end Sys2Proof.Machine

/-!
PROOF. Stopping and braking distances (R104, R105): the stopping distance is the braking distance to
rest, so both rules follow from the braking numerator and the rounding up.
-/

namespace Sys2Proof.Machine

/-! ### The rounding up -/

/-- A rounded quotient is the least whole number not below the exact one. -/
theorem ceilDiv_le_iff {n d m : Nat} (hd : 0 < d) : ceilDiv n d ≤ m ↔ n ≤ m * d := by
  rw [ceilDiv, ← Nat.lt_succ_iff, Nat.div_lt_iff_lt_mul hd, Nat.succ_mul]
  omega

theorem ceilDiv_le_ceilDiv {n n' : Nat} (d : Nat) (h : n ≤ n') : ceilDiv n d ≤ ceilDiv n' d :=
  Nat.div_le_div_right (Nat.sub_le_sub_right (Nat.add_le_add_right h d) 1)

/-! ### The numerator -/

section
variable (p : Params) {v v' : Nat} (c : Nat)

/-- The numerator of the braking distance (R105); at `c = 0`, that of the stopping distance (R104). -/
def Params.brakingNumerator (v c : Nat) : Nat :=
  2 * p.decel * v * p.reactionMs + 1000 * (v * v - c * c)

theorem Params.braking_eq (v : Nat) :
    p.braking v c = ceilDiv (p.brakingNumerator v c) (2000 * p.decel) := rfl

/-- The stopping distance is the braking distance to rest. -/
theorem Params.braking_zero (v : Nat) : p.braking v 0 = p.stopping v := rfl

theorem Params.brakingNumerator_mono (h : v' ≤ v) :
    p.brakingNumerator v' c ≤ p.brakingNumerator v c :=
  Nat.add_le_add (Nat.mul_le_mul_right _ (Nat.mul_le_mul_left _ h))
    (Nat.mul_le_mul_left _ (Nat.sub_le_sub_right (Nat.mul_le_mul h h) _))

/-- Braking to rest has the largest numerator. -/
theorem Params.brakingNumerator_le_zero (v : Nat) :
    p.brakingNumerator v c ≤ p.brakingNumerator v 0 :=
  Nat.add_le_add_left (Nat.mul_le_mul_left 1000 (Nat.sub_le_sub_left (Nat.zero_le (c * c)) (v * v))) _

/-- The numerator at the largest speed and reaction time, with the deceleration left open. -/
theorem Params.brakingNumerator_zero_le (ht : p.reactionMs ≤ 1000) (hv : v ≤ 1200) :
    p.brakingNumerator v 0 ≤ 2 * p.decel * 1200 * 1000 + 1000 * (1200 * 1200) :=
  Nat.add_le_add (Nat.mul_le_mul (Nat.mul_le_mul_left _ hv) ht)
    (Nat.mul_le_mul_left _ (Nat.le_trans (Nat.sub_le _ _) (Nat.mul_le_mul hv hv)))

/-! ### The two distances -/

theorem Params.braking_le_iff (hd : 0 < p.decel) (v n : Nat) :
    p.braking v c ≤ n ↔ p.brakingNumerator v c ≤ n * (2000 * p.decel) := by
  rw [p.braking_eq c v, ceilDiv_le_iff (Nat.mul_pos (by decide) hd)]

theorem Params.braking_mono (h : v' ≤ v) : p.braking v' c ≤ p.braking v c := by
  rw [p.braking_eq c v', p.braking_eq c v]
  exact ceilDiv_le_ceilDiv _ (p.brakingNumerator_mono c h)

theorem Params.braking_le_stopping (v : Nat) : p.braking v c ≤ p.stopping v := by
  rw [← p.braking_zero v, p.braking_eq c v, p.braking_eq 0 v]
  exact ceilDiv_le_ceilDiv _ (p.brakingNumerator_le_zero c v)

theorem Params.stopping_le_iff (hd : 0 < p.decel) (v n : Nat) :
    p.stopping v ≤ n ↔ p.brakingNumerator v 0 ≤ n * (2000 * p.decel) :=
  p.braking_le_iff 0 hd v n

theorem Params.stopping_mono (h : v' ≤ v) : p.stopping v' ≤ p.stopping v :=
  p.braking_mono 0 h

theorem Params.stopping_zero (hd : 0 < p.decel) : p.stopping 0 = 0 := by
  refine Nat.le_zero.mp ((p.stopping_le_iff hd 0 0).mpr ?_)
  simp only [Params.brakingNumerator, Nat.mul_zero, Nat.zero_mul, Nat.zero_sub, Nat.add_zero,
    Nat.le_refl]

theorem Params.stoppingNumerator_le (ha : p.decel ≤ 300) (ht : p.reactionMs ≤ 1000) (hv : v ≤ 1200) :
    p.brakingNumerator v 0 ≤ 2160000000 := by
  have top := p.brakingNumerator_zero_le ht hv
  omega

theorem Params.stopping_le (ha : 50 ≤ p.decel) (ht : p.reactionMs ≤ 1000) (hv : v ≤ 1200) :
    p.stopping v ≤ 15600 := by
  have top := p.brakingNumerator_zero_le ht hv
  rw [p.stopping_le_iff (by omega)]
  omega

/-- The largest stopping distance is reached at the lowest deceleration and longest reaction. -/
theorem Params.stopping_worst (ha : p.decel = 50) (ht : p.reactionMs = 1000) :
    p.stopping 1200 = 15600 := by
  rw [Params.stopping, ha, ht]
  decide

end

/-! ### The arguments of the stopping distance -/

@[simp] theorem State.takeSpeed_speed (s : State) (v : Nat) :
    (s.takeSpeed v).pos.speed = min 1200 v := by
  unfold State.takeSpeed
  dsimp only
  split
  · rw [State.latch_pos, State.setPos_pos, Config.maxReportSpeed]
  · rw [State.setPos_pos, Config.maxReportSpeed]

/-- The ceiling is 0 or one of the candidates 5, 10, .., 5·n. -/
theorem State.ceilingSearch_le (s : State) (front cap l n : Nat) :
    s.ceilingSearch front cap l n ≤ 5 * n := by
  induction n with
  | zero => exact Nat.le_refl 0
  | succ n ih =>
    unfold State.ceilingSearch
    split
    · exact Nat.le_refl _
    · exact Nat.le_trans ih (Nat.mul_le_mul_left 5 (Nat.le_succ n))

/-- Settles O17: the distance is a rounded quotient whose numerator grows with the speed; reported
speeds saturate at 1200 and the ceiling's candidates end at MAX_SPEED. -/
theorem stoppingDistanceRule : Obligations.StoppingDistanceRule := by
  refine ⟨fun p hlo hhi ht => ?formula, fun p => p.stopping_worst, State.takeSpeed_speed,
    fun s front cap l => Nat.le_trans (s.ceilingSearch_le front cap l _) (Nat.mul_div_le _ 5)⟩
  have hd : 0 < p.decel := by omega
  exact ⟨p.stopping_zero hd, Nat.mul_le_mul_left 2000 hlo, Nat.mul_le_mul_left 2000 hhi, fun v hv =>
    ⟨p.stopping_le_iff hd v, fun _ => p.stopping_mono, p.stoppingNumerator_le hhi ht hv,
      p.stopping_le hlo ht hv⟩⟩

/-! ### The arguments of the braking distance -/

/-- A cell's class is an entry of the class table: its 16 entries are all that four bits select. -/
theorem ConfigLoader.classOf_mem {c : ConfigLoader} (h : c.classes.length = 16) (cell : CellId) :
    c.classOf cell ∈ c.classes := by
  have hlt : cell.toNat / 4096 < c.classes.length := by omega
  rw [ConfigLoader.classOf, List.getD_eq_getElem?_getD, List.getElem?_eq_getElem hlt,
    Option.getD_some]
  exact List.getElem_mem hlt

theorem State.classOf_speedCap_ge {s : State} (h : s.config.ok) (cell : CellId) :
    50 ≤ (s.classOf cell).speedCap := by
  obtain ⟨-, hlen, hcaps, -⟩ := h
  exact (hcaps _ (ConfigLoader.classOf_mem hlen cell)).1

theorem State.effectiveCap_ge {s : State} {e : RouteEntry} (h : s.config.ok)
    (hcap : ∀ o, e.cap = some o → 50 ≤ o) : 50 ≤ s.effectiveCap e := by
  have hclass := s.classOf_speedCap_ge h e.cell
  unfold State.effectiveCap
  split
  · exact hclass
  next o ho => exact Nat.le_min.mpr ⟨hcap o ho, hclass⟩

/-- Condition 3 of R113 entry by entry: an entry that starts between the front bound and the authority
point asks for the braking distance, of a candidate above its cap alone. -/
theorem State.meetsTargets_cons_iff (s : State) (front p v : Nat) (e : RouteEntry)
    (es : List RouteEntry) (start : Nat) :
    s.meetsTargets front p v (e :: es) start = true ↔
      (front < start → start < p → s.effectiveCap e < v →
        s.config.params.braking v (s.effectiveCap e) ≤ start - front)
      ∧ s.meetsTargets front p v es (start + e.length) = true := by
  rw [State.meetsTargets, Bool.and_eq_true, ← and_imp]
  refine and_congr_left' ?_
  split
  case isTrue between =>
    rw [Bool.or_eq_true, decide_eq_true_eq, decide_eq_true_eq, Decidable.or_iff_not_imp_left, Nat.not_le,
      forall_prop_of_true between]
  case isFalse outside => exact iff_of_true rfl fun between => absurd between outside

/-- Settles O18: the numerator grows with `v` and is largest at `c = 0`, and the ceiling's search uses the
distance as the entries of the route say. -/
theorem brakingDistanceRule : Obligations.BrakingDistanceRule := by
  refine ⟨fun p v c hlo _ _ _ _ => ?formula, fun _ _ => State.effectiveCap_ge,
    State.meetsTargets_cons_iff⟩
  have hd : 0 < p.decel := by omega
  exact ⟨p.braking_le_iff c hd v, p.braking_zero v, p.braking_le_stopping c v,
    fun _ _ => p.braking_mono c, p.brakingNumerator_le_zero c v⟩

end Sys2Proof.Machine

/-!
PROOF. General notions that the proofs need and core Lean does not have: the closure of a relation, induction on
a list from its end.
-/

namespace Sys2Proof.Machine

/-- Steps of a relation one after another, none or more. -/
inductive StepsOf {α : Type} (r : α → α → Prop) (a : α) : α → Prop
  | refl : StepsOf r a a
  | tail {b c : α} (h : StepsOf r a b) (step : r b c) : StepsOf r a c

theorem StepsOf.single {α : Type} {r : α → α → Prop} {a b : α} (h : r a b) : StepsOf r a b := .tail .refl h

theorem StepsOf.trans {α : Type} {r : α → α → Prop} {a b c : α} (h : StepsOf r a b) (h' : StepsOf r b c) :
    StepsOf r a c := by
  induction h' with
  | refl => exact h
  | tail _ step ih => exact .tail ih step

/-- Induction on a list from its end. -/
theorem list_end_induction {α : Type} {P : List α → Prop} (nil : P [])
    (append_singleton : ∀ xs x, P xs → P (xs ++ [x])) (xs : List α) : P xs := by
  rw [← xs.reverse_reverse]
  induction xs.reverse with
  | nil => exact nil
  | cons x ys ih =>
    rw [List.reverse_cons]
    exact append_singleton _ x ih

/-- Two lists of one length, each element of the one related to that in its place in the other. -/
inductive InPlace {α β : Type} (R : α → β → Prop) : List α → List β → Prop
  | nil : InPlace R [] []
  | cons {a : α} {b : β} {as : List α} {bs : List β} (h : R a b) (hs : InPlace R as bs) : InPlace R (a :: as) (b :: bs)

section
variable {α β : Type} {R : α → β → Prop} {as : List α} {bs : List β}

theorem InPlace.length_eq (h : InPlace R as bs) : as.length = bs.length := by
  induction h with
  | nil => rfl
  | cons _ _ ih => exact congrArg (· + 1) ih

theorem InPlace.get (h : InPlace R as bs) {k : Nat} (ha : k < as.length) (hb : k < bs.length) : R as[k] bs[k] := by
  induction h generalizing k with
  | nil => exact absurd ha (Nat.not_lt_zero k)
  | cons h _ ih =>
    cases k with
    | zero => exact h
    | succ k => exact ih (Nat.lt_of_succ_lt_succ ha) (Nat.lt_of_succ_lt_succ hb)

theorem InPlace.append (h : InPlace R as bs) {as' : List α} {bs' : List β} (h' : InPlace R as' bs') :
    InPlace R (as ++ as') (bs ++ bs') := by
  induction h with
  | nil => exact h'
  | cons h _ ih => exact .cons h ih

theorem InPlace.refl {R : α → α → Prop} (hR : ∀ a, R a a) (as : List α) : InPlace R as as := by
  induction as with
  | nil => exact .nil
  | cons a as ih => exact .cons (hR a) ih

theorem InPlace.map {R : α → α → Prop} {f : α → α} (h : ∀ a, R a (f a)) (as : List α) : InPlace R as (as.map f) := by
  induction as with
  | nil => exact .nil
  | cons a as ih => exact .cons (h a) ih

theorem InPlace.map_eq {γ : Type} {f : α → γ} {g : β → γ} (hR : ∀ a b, R a b → g b = f a) (h : InPlace R as bs) :
    bs.map g = as.map f := by
  induction h with
  | nil => rfl
  | cons hab _ ih => rw [List.map_cons, List.map_cons, ih, hR _ _ hab]

end

theorem filter_swap {α : Type} (p q : α → Bool) (xs : List α) : (xs.filter p).filter q = (xs.filter q).filter p := by
  rw [List.filter_filter, List.filter_filter]
  exact congrArg (List.filter · xs) (funext fun _ => Bool.and_comm _ _)

theorem foldl_append_singleton {α β : Type} (f : β → α → β) (b : β) (xs : List α) (x : α) :
    (xs ++ [x]).foldl f b = f (xs.foldl f b) x := by
  rw [List.foldl_append]
  rfl

/-! ### Lists cut at the first element that fails a test -/

theorem dropWhile_nil_iff {α : Type} {p : α → Bool} {xs : List α} : xs.dropWhile p = [] ↔ ∀ x ∈ xs, p x = true := by
  induction xs with
  | nil => exact iff_of_true rfl nofun
  | cons x xs ih =>
    rw [List.dropWhile_cons, List.forall_mem_cons]
    split
    next h => rw [ih, and_iff_right h]
    next h => exact iff_of_false nofun fun hx => h hx.1

theorem passes_of_mem_takeWhile {α : Type} {p : α → Bool} {x : α} {xs : List α} (h : x ∈ xs.takeWhile p) : p x = true := by
  induction xs with
  | nil => cases h
  | cons y ys ih =>
    rw [List.takeWhile_cons] at h
    split at h
    next hy =>
      obtain rfl | h := List.mem_cons.mp h
      · exact hy
      · exact ih h
    next => cases h

end Sys2Proof.Machine

/-!
PROOF. What a step can do, said once: every command is a chain of moves, and the handling of an event a
chain of stages, each a small change of one block under a stated guard. An invariant is then a matter of
these changes alone.
-/

namespace Sys2Proof.Machine

/-! ### The changes of each block within an event -/

/-- The Drive Link Unit's changes within an event that keep the mode (R162 to R165). -/
inductive DriveLink.Edit (l : DriveLink) : DriveLink → Prop
  | count (c : Counter) : Edit l { l with counters := l.counters.bump c }
  | clearCounters : Edit l { l with counters := .zero }
  | latch (f : Flag) : Edit l { l with latched := l.latched.set f }
  | clearLatched : Edit l { l with latched := .clear }
  | notice (n : Notice) (h : l.notices.length < 8) :
      Edit l { l with outgoing := l.outgoing ++ [.notice n] }
  | forget : Edit l { l with outstanding := [], pendingIssue := false }
  | armPeriod (t : Nat) : Edit l { l with authTimer := some t }

/-- The Claim Engine's changes within an event that keep route and position (R44 to R60). -/
inductive State.ClaimEdit (s : State) : ClaimEngine → Prop
  | claimAhead : ClaimEdit s s.claimAhead.claims
  | promoteAll : ClaimEdit s s.promoteAll.1.claims
  | promoteFrom (i : Nat) : ClaimEdit s (s.promoteFrom i).1.claims
  | announce (ids : List Nat) : ClaimEdit s (s.announce ids).claims
  | enter (front : Nat) (h : s.front? = some front) :
      ClaimEdit s (enterUpTo front s.route.entries s.route.first 0 s).1.claims
  | yieldTo (id deferral : Nat) (b : Option Nat) (h : deferral ≤ 7) : ClaimEdit s
      { s.claims with
        list := s.claims.list.takeWhile fun c => c.identity != id
        deferral := deferral, backoff := b }
  | stopYieldTimer (i : Nat) : ClaimEdit s { s.claims with
      list := s.claims.list.map fun c => if c.index = i then { c with yieldTimer := none } else c }
  | stopHoldTimer (i : Nat) : ClaimEdit s { s.claims with
      list := s.claims.list.map fun c => if c.index = i then { c with holdTimer := none } else c }
  | stopBackoff : ClaimEdit s { s.claims with backoff := none }
  | urgency (n : Nat) (h : n ≤ 3) : ClaimEdit s { s.claims with urgency := n }
  | dropHeld (h : s.ctl.mode = .stopped) : ClaimEdit s s.dropHeld.claims

/-- The Position Unit's changes within an event that keep route and claims (R26, R28, R32, R35). -/
inductive State.PosEdit (s : State) : PositionUnit → Prop
  | speed (v : Nat) (h : v ≤ 1200) : PosEdit s { s.pos with speed := v }
  | move (p : RoutePos) (d : Nat) (h : s.pos.start = true) (hp : s.pos.pos = some p) : PosEdit s
      { s.pos with
        pos := some (s.route.carryOn ⟨p.index, p.offset + d⟩)
        sinceFix := satAdd Config.saturation s.pos.sinceFix d }
  | fix (j : Nat) (cell : CellId) (h : s.pos.start = true) (hj : s.route.indexOfCell cell = some j) :
      PosEdit s { s.pos with pos := some ⟨j, 0⟩, base := 0, sinceFix := 0, offRoute := 0 }
  | offRoute (n : Nat) (h : n ≤ 2) : PosEdit s { s.pos with offRoute := n }

/-- A slot that a beacon of a station may take (R73 to R75): that station's own, or an empty one when the
station has none. -/
def PeerTable.slotFor (t : PeerTable) (k : Nat) (id : StationId) : Prop :=
  t.slotOf id = some k ∨ (t.slotOf id = none ∧ t.slots[k]? = some none)

/-- The Peer Table's changes within an event (R64 to R82). -/
inductive State.PeerEdit (s : State) : PeerTable → Prop
  | store (k : Nat) (b : Beacon) (body : List Byte) (e : PeerEntry) (hb : readBeacon body = some b)
      (he : checkBeacon b s.now = some e)
      (hid : e.id ≠ s.config.straps.stationId) (hk : s.peers.slotFor k e.id) :
      PeerEdit s { s.peers with slots := s.peers.slots.set k (some e) }
  | remove (k : Nat) : PeerEdit s { s.peers with slots := s.peers.slots.set k none }
  | makeStale (k : Nat) : PeerEdit s (s.makeStale k).peers
  | hold (h : Option Nat) : PeerEdit s { s.peers with hold := h }

/-- The Authority Unit's changes within an event (R103, R117). -/
inductive State.AuthEdit (s : State) : AuthorityUnit → Prop
  | overrun : AuthEdit s { s.auth with overrun := true }
  | compute : AuthEdit s s.computeAuthority.1

/-- The Beacon Unit's changes within an event (R132, R133, R135). -/
inductive BeaconUnit.Edit (b : BeaconUnit) : BeaconUnit → Prop
  | failures (n : Nat) (h : n ≤ 255) : Edit b { b with failures := n }
  | settled : Edit b { b with inFlight := none }
  | reset : Edit b { b with rx := [], inFlight := none, failures := 0 }

/-- The Mode Controller's changes within an event that keep mode and line (R137, R141, R143, R145). -/
inductive ModeController.Edit (m : ModeController) : ModeController → Prop
  | mark (c : Cause) : Edit m (m.clearMark c)
  | cause (c : Cause) (hs : m.mode ≠ .serving) (hp : m.mode ≠ .parked) (hc : m.causes.has c = false) :
      Edit m { m with
        causes := m.causes.add c
        first := if m.causes.isEmpty then some c else m.first }
  | satisfy (c : Cause) : Edit m (m.satisfy c)
  | clear : Edit m { m with
      causes := .none, first := none, markPositionLost := false, markOffRoute := false
      markAirFault := false }
  | listened : Edit m { m with listenFrom := none, listenDone := true }
  | fault (f : InitFault) : Edit m { m with initFault := f }

/-- The Configuration Loader's changes within an event that keep the mode (R172, R176, R177). -/
inductive ConfigLoader.Edit (c : ConfigLoader) : ConfigLoader → Prop
  | store (i : ParamId) (v : Nat) : Edit c (c.store i v)
  | setClass (k : Nat) (cap : Half) (flags : Byte) (hold : Half) : Edit c
      { c with
        classes := c.classes.set k (classEntry cap flags hold).1
        clamped := c.clamped || (classEntry cap flags hold).2 }

/-- The changes within an event in which route, claims and position move together (R9, R13, R15, R17, R37,
R53). -/
inductive State.LayoutEdit (s : State) : State → Prop
  | release : LayoutEdit s s.release
  | start (index offset : Nat) (hmode : s.ctl.mode = .listen) (hstart : s.pos.start = false)
      (h : s.startRefusal index offset = none) :
      LayoutEdit s (s.setPos { s.pos with
        start := true, pos := some ⟨index, offset⟩, base := s.config.params.startUnc
        sinceFix := 0, offRoute := 0 }).startClaims
  | append (block : List RouteSlot) (payload : List Byte) (hblock : block = routeSlots payload)
      (h : s.blockRefusal block = none) :
      LayoutEdit s ((s.append block).setPos { s.pos with
        pos := s.pos.pos.map (s.append block).route.carryOn })
  | truncate (hr : s.route.state = .active) (hs : s.pos.start = true) : LayoutEdit s s.truncate
  | clearRoute (hs : s.pos.start = false) : LayoutEdit s (s.setRoute .reset)
  | releaseStop : LayoutEdit s (s.setRoute { s.route with entries := releaseFirst s.route.entries })
  | truncated (h : s.route.state = .truncating) :
      LayoutEdit s (s.setRoute { s.route with state := .active })

/-- A change of the state within an event that keeps mode and line, by the block it touches. -/
inductive State.Edit (s : State) : State → Prop
  | link {l : DriveLink} (h : s.link.Edit l) : Edit s (s.setLink l)
  | claims {k : ClaimEngine} (h : s.ClaimEdit k) : Edit s (s.setClaims k)
  | pos {p : PositionUnit} (h : s.PosEdit p) : Edit s (s.setPos p)
  | peers {p : PeerTable} (h : s.PeerEdit p) : Edit s (s.setPeers p)
  | auth {a : AuthorityUnit} (h : s.AuthEdit a) : Edit s (s.setAuth a)
  | beacon {b : BeaconUnit} (h : s.beacon.Edit b) : Edit s (s.setBeacon b)
  | ctl {m : ModeController} (h : s.ctl.Edit m) : Edit s (s.setCtl m)
  | config {c : ConfigLoader} (hmode : s.ctl.mode ≠ .serving) (h : s.config.Edit c) :
      Edit s (s.setConfig c)
  | loadOver : Edit s (s.setConfig { s.config with loading := false })
  | layout {t : State} (h : s.LayoutEdit t) : Edit s t

/-! ### The stages of an event -/

/-- The configuration a load puts in place (R172). -/
inductive ConfigLoader.Loaded (c : ConfigLoader) : ConfigLoader → Prop
  | defaults : Loaded c c.standDefaults
  | record (memory : List Byte) (pairs : List (ParamId × Nat)) (classes : List (ClassEntry × Bool))
      (h : readRecord memory = .record pairs classes) : Loaded c (c.apply pairs classes)

/-- The state as the end of a load enters LISTEN, before a raise of EXTERNAL (R140). -/
def State.listening (s : State) : State :=
  let s := s.setMode .listen
  let s := s.setCtl { s.ctl with listenFrom := some s.now, external := s.extPin }
  let s := s.setBeacon { s.beacon with
    timer := some (s.now + s.config.params.beaconPeriod
      + jitterDraw s.beacon.jitter s.config.params.beaconJitter) }
  s.setLink { s.link with authTimer := some (s.now + s.config.params.authPeriod) }

/-- The configuration a load puts in place, with the link rate it orders (R175). -/
def State.configured (s : State) (c : ConfigLoader) (rate : Option LinkRate) : State :=
  rate.elim (s.setConfig { c with ready := true, loading := false })
    ((s.setConfig { c with ready := true, loading := false }).orderRate ·)

/-- A stage of an event: an edit, something owed to the event's end, or a change of mode. -/
inductive Work.Stage (w : Work) : Work → Prop
  | edit {t : State} (h : w.s.Edit t) : Stage w { w with s := t }
  | owe {w' : Work} (hs : w'.s = w.s) (hr : w.recompute = true → w'.recompute = true)
      (hm : w.modeChanged = true → w'.modeChanged = true) : Stage w w'
  | stop (h : w.s.ctl.mode ≠ .init) : Stage w w.enterStopped
  | stopFor (c : Cause) (h : w.s.ctl.mode ≠ .init) : Stage w (w.on (·.recordCause c)).enterStopped
  | serve (hi : w.s.ctl.mode ≠ .init)
      (h : w.s.ctl.mode = .parked ∨ w.s.ctl.causes.isEmpty = true) : Stage w w.enterServing
  | park (h : w.s.ctl.mode = .serving) : Stage w w.enterParked
  | relisten (h : w.s.ctl.mode = .stopped) :
      Stage w { w with s := w.s.setMode .listen, recompute := true, modeChanged := true }
  | load {c : ConfigLoader} (hl : w.s.config.loading = true) (hc : w.s.config.Loaded c)
      (rate : Option LinkRate) :
      Stage w { w with
        s := (w.s.configured c rate).listening, recompute := true, modeChanged := true }

/-- The stages that handle an event, one after another. -/
def Work.Stages : Work → Work → Prop := StepsOf Work.Stage

/-- The start of an event. -/
def Work.begin (s : State) : Work := ⟨s, false, false, false, false, false, true⟩

/-! ### Moves -/

/-- A move: a change that a command makes outside the handling of an event, or an event whole. -/
inductive State.Move (s : State) : State → Prop
  | stillHeld (a b : Bool) (hs : s.held = true) (ht : (a || b) = true) :
      Move s { s with resetPin := a, supplyLost := b }
  | hold (a b : Bool) (h : (a || b) = true) :
      Move s ({ s with resetPin := a, supplyLost := b } : State).holdInReset
  | reset (straps : Straps) :
      Move s (({ s with resetPin := false, supplyLost := false } : State).resetBlocks straps)
  | pin (b : Bool) : Move s { s with extPin := b }
  | external (b : Bool) : Move s (s.setCtl { s.ctl with external := b })
  | readerRx (b : List Byte) : Move s { s with readerRx := b }
  | rate (r : LinkRate) : Move s (s.changeRate r)
  | transmit : Move s s.transmit
  | sent {x : OutItem} (h : s.link.transmitting = some x) : Move s (s.setLink { s.link with
      transmitting := none
      restartDue := s.link.restartDue || x.isRestartDone })
  | take {f : Frame} {rest : List Frame} (h : s.link.intake = f :: rest) :
      Move s (s.setLink { s.link with intake := rest })
  | arrive (f : Frame) (h : s.link.intake.length < 4) :
      Move s (s.setLink { s.link with intake := s.link.intake ++ [f] })
  | count (c : Counter) : Move s (s.count c)
  | latch (f : Flag) : Move s (s.latch f)
  | linkRx (bytes : List Byte) (fuel : Nat) (hf : (s.link.rx ++ bytes).length < fuel) :
      Move s (s.setLink { s.link with
      rx := (linkScan fuel s.link.rxCut (s.link.rx ++ bytes)).2.1
      rxCut := (linkScan fuel s.link.rxCut (s.link.rx ++ bytes)).2.2 })
  | airRx (b : List Byte) : Move s (s.setBeacon { s.beacon with rx := b })
  | echo (outs : List Outstanding) (h : outs.length ≤ s.link.outstanding.length)
      (hm : s.ctl.mode = .serving) : Move s (s.setLink { s.link with outstanding := outs })
  | issuePending (hm : s.ctl.mode = .serving) : Move s s.issuePending
  | rearm : Move s s.rearmBeacon
  | build : Move s s.buildBeacon
  | parked (n : Nat) (h : n ≤ 2) : Move s (s.setBeacon { s.beacon with parkedCount := n })
  | makeStale (k : Nat) : Move s (s.makeStale k)
  | event {w : Work} (before : State) (v : Nat) (hh : s.held = false) (h : (Work.begin s).Stages w) :
      Move s ((w.settle before).dropAtRest v).close
  | answer {w : Work} (before : State) (type : Byte) (code : ResultCode) (result : List Byte)
      (hh : s.held = false) (hr : s.link.responseWaiting = false) (h : (Work.begin s).Stages w) :
      Move s ((w.settle before).close.respond type code result)

/-- Moves one after another. -/
def State.Moves : State → State → Prop := StepsOf State.Move

end Sys2Proof.Machine

/-!
PROOF. Each operation of an event is a chain of stages: one lemma per operation, in the order of the
definitions.
-/

namespace Sys2Proof.Machine

/-! ### Chains -/

/-- Edits one after another. -/
def State.Edits : State → State → Prop := StepsOf State.Edit

section
variable {s t u : State} {w w' w'' : Work}

theorem State.Edits.refl : s.Edits s := StepsOf.refl
theorem State.Edits.trans (h : s.Edits t) (h' : t.Edits u) : s.Edits u := StepsOf.trans h h'
theorem State.Edit.edits (h : s.Edit t) : s.Edits t := StepsOf.single h

theorem Work.Stages.refl : w.Stages w := StepsOf.refl
theorem Work.Stages.trans (h : w.Stages w') (h' : w'.Stages w'') : w.Stages w'' :=
  StepsOf.trans h h'
theorem Work.Stage.stages (h : w.Stage w') : w.Stages w' := StepsOf.single h

theorem State.Moves.refl : s.Moves s := StepsOf.refl
theorem State.Moves.trans (h : s.Moves t) (h' : t.Moves u) : s.Moves u := StepsOf.trans h h'
theorem State.Move.moves (h : s.Move t) : s.Moves t := StepsOf.single h

/-- What every stage keeps, an event keeps. -/
theorem Work.Stages.keeps {P : Work → Prop} (step : ∀ w w', w.Stage w' → P w → P w') (h : w.Stages w')
    (hw : P w) : P w' := by
  unfold Work.Stages at h
  induction h with
  | refl => exact hw
  | tail _ h ih => exact step _ _ h ih

/-- What every move keeps, a run of moves keeps. -/
theorem State.Moves.keeps {P : State → Prop} (step : ∀ s t, s.Move t → P s → P t) (h : s.Moves t)
    (hs : P s) : P t := by
  unfold State.Moves at h
  induction h with
  | refl => exact hs
  | tail _ h ih => exact step _ _ h ih

theorem State.Edits.stages {w : Work} {t : State} (h : w.s.Edits t) : w.Stages { w with s := t } := by
  unfold State.Edits at h
  induction h with
  | refl => exact .refl
  | tail _ h ih => exact ih.trans (Work.Stage.edit (w := { w with s := _ }) h).stages

theorem Work.Stages.on {f : State → State} (h : w.s.Edits (f w.s)) : w.Stages (w.on f) := h.stages

theorem Work.stages_owe (w : Work) : w.Stages w.owe := Work.Stage.stages (.owe rfl (fun _ => rfl) id)

end

/-- A choice between two continuations is a chain where each is. -/
theorem Work.Stages.ite {p : Prop} [Decidable p] {w a b : Work} (ha : p → w.Stages a)
    (hb : ¬ p → w.Stages b) : w.Stages (if p then a else b) := by
  split
  · exact ha ‹_›
  · exact hb ‹_›

/-! ### Edits of the blocks -/

theorem State.edits_count (s : State) (c : Counter) : s.Edits (s.count c) :=
  (State.Edit.link (.count c)).edits

theorem State.edits_latch (s : State) (f : Flag) : s.Edits (s.latch f) :=
  (State.Edit.link (.latch f)).edits

theorem State.edits_queueNotice (s : State) (n : Notice) : s.Edits (s.queueNotice n) := by
  obtain ⟨hl, h⟩ | ⟨-, h⟩ := s.queueNotice_cases n
  · exact h ▸ (State.Edit.link (.notice n hl)).edits
  · exact h ▸ s.edits_latch .noticeOverflow

theorem State.claimAhead_eq (s : State) : s.claimAhead = s.setClaims s.claimAhead.claims := by
  obtain ⟨new, h, -⟩ := s.claimAhead_spec
  rw [h]
  rfl

theorem State.edits_claimAhead (s : State) : s.Edits s.claimAhead :=
  s.claimAhead_eq ▸ (State.Edit.claims .claimAhead).edits

theorem State.edits_promoteAll (s : State) : s.Edits s.promoteAll.1 :=
  (State.Edit.claims .promoteAll).edits

theorem State.edits_evaluatePromotion (s : State) : s.Edits s.evaluatePromotion := by
  unfold State.evaluatePromotion
  dsimp only
  split
  · exact s.edits_promoteAll.trans (State.edits_claimAhead _)
  · exact s.edits_promoteAll

theorem State.promoteFrom_eq (s : State) (i : Nat) :
    (s.promoteFrom i).1 = s.setClaims (s.promoteFrom i).1.claims := by
  unfold State.promoteFrom
  dsimp only
  split
  · rfl
  · split <;> rfl

theorem State.edits_promoteFrom (s : State) (i : Nat) : s.Edits (s.promoteFrom i).1 :=
  s.promoteFrom_eq i ▸ (State.Edit.claims (.promoteFrom i)).edits

theorem State.edits_yieldExpired (s : State) (i : Nat) : s.Edits (s.yieldExpired i) := by
  refine (State.Edit.claims (.stopYieldTimer i)).edits.trans ?_
  unfold State.yieldExpired
  dsimp only
  split
  · exact (State.edits_promoteFrom _ i).trans (State.edits_claimAhead _)
  · exact State.edits_promoteFrom _ i

theorem State.edits_holdExpired (s : State) (i : Nat) : s.Edits (s.holdExpired i) :=
  (State.Edit.claims (.stopHoldTimer i)).edits

theorem State.edits_backoffExpired (s : State) : s.Edits s.backoffExpired :=
  (State.Edit.claims .stopBackoff).edits.trans (State.edits_claimAhead _)

theorem State.edits_holdRunOut (s : State) : s.Edits s.holdRunOut :=
  (State.Edit.peers (.hold none)).edits.trans (State.edits_claimAhead _)

theorem State.edits_yieldClaim (s : State) (id : Nat) : s.Edits (s.yieldClaim id) := by
  unfold State.yieldClaim
  split
  · exact (State.Edit.claims (.yieldTo id (satAdd 7 s.claims.deferral 1) _ (Nat.min_le_left _ _))).edits.trans
      (State.edits_count _ .yields)
  · exact .refl

/-- A cause is recorded where no change of mode has to follow at once (R143). -/
theorem State.edits_recordCause (s : State) (c : Cause) (hs : s.ctl.mode ≠ .serving)
    (hp : s.ctl.mode ≠ .parked) : s.Edits (s.recordCause c) := by
  have hmark : s.Edits (s.setCtl (s.ctl.clearMark c)) := (State.Edit.ctl (.mark c)).edits
  have hmode : (s.ctl.clearMark c).mode = s.ctl.mode := by cases c <;> rfl
  unfold State.recordCause
  dsimp only
  split
  · exact hmark
  · refine hmark.trans (.trans (State.Edit.ctl (.cause c ?_ ?_ ?_)).edits (State.edits_queueNotice _ _))
    · simpa [hmode] using hs
    · simpa [hmode] using hp
    · exact Bool.eq_false_iff.mpr ‹_›

theorem State.edits_beaconConfirmed (s : State) (b : InFlight) : s.Edits (s.beaconConfirmed b) := by
  refine (s.edits_count .beaconsSent).trans ?_
  refine .trans (State.Edit.beacon (.failures 0 (by decide))).edits ?_
  refine .trans (State.Edit.ctl (.satisfy .airFault)).edits ?_
  refine .trans (State.Edit.claims (.announce b.identities)).edits ?_
  refine .trans (State.edits_promoteAll _) ?_
  unfold State.beaconConfirmed
  dsimp only
  refine .trans ?_ ((State.edits_claimAhead _).trans (State.Edit.beacon .settled).edits)
  unfold State.completeTruncation
  split
  next h => exact (State.Edit.layout (.truncated h.2)).edits
  next => exact .refl

theorem State.edits_takeSpeed (s : State) (v : Nat) : s.Edits (s.takeSpeed v) := by
  refine .trans (State.Edit.pos (.speed (min Config.maxReportSpeed v) (Nat.min_le_left _ _))).edits ?_
  unfold State.takeSpeed
  dsimp only
  split
  · exact State.edits_latch _ _
  · exact .refl

/-! ### Modes and causes -/

theorem Work.stages_listenExit (w : Work) : w.Stages w.listenExit := by
  unfold Work.listenExit
  refine .ite (fun h => ?_) fun _ => .refl
  have hi : w.s.ctl.mode ≠ .init := by rw [h.1]; decide
  refine .ite (fun _ => (Work.Stage.stop hi).stages) fun _ => .ite (fun _ => ?_) fun _ => .refl
  exact .ite (fun he => (Work.Stage.serve hi (.inr he)).stages) fun _ => (Work.Stage.stop hi).stages

theorem State.recordCause_mode (s : State) (c : Cause) : (s.recordCause c).ctl.mode = s.ctl.mode := by
  obtain ⟨m, l, h, -, hmode, -⟩ := s.recordCause_spec c
  rw [h]
  exact hmode

theorem Work.stages_raise (w : Work) (c : Cause) : w.Stages (w.raise c) := by
  have hmode : (w.on (·.recordCause c)).s.ctl.mode = w.s.ctl.mode := w.s.recordCause_mode c
  unfold Work.raise
  dsimp only
  split
  case h_1 h =>
    rw [hmode] at h
    exact .on (w.s.edits_recordCause c (by rw [h]; decide) (by rw [h]; decide))
  case h_2 h =>
    rw [hmode] at h
    exact (Work.Stages.on (w.s.edits_recordCause c (by rw [h]; decide) (by rw [h]; decide))).trans
      (Work.stages_listenExit _)
  case h_3 h => exact (Work.Stage.stopFor c (by rw [← hmode, h]; decide)).stages
  case h_4 h => exact (Work.Stage.stopFor c (by rw [← hmode, h]; decide)).stages
  case h_5 h =>
    rw [hmode] at h
    exact .on (w.s.edits_recordCause c (by rw [h]; decide) (by rw [h]; decide))

theorem Work.stages_ite_raise (w : Work) (c : Cause) (p : Prop) [Decidable p] :
    w.Stages (if p then w.raise c else w) :=
  .ite (fun _ => w.stages_raise c) fun _ => .refl

/-! ### Authority -/

theorem Work.stages_compute (w : Work) : w.Stages w.compute := .on (State.Edit.auth .compute).edits

theorem Work.stages_raiseOverrun (w : Work) : w.Stages w.raiseOverrun :=
  (Work.Stages.on (State.Edit.auth .overrun).edits).trans (Work.stages_raise _ _)

theorem Work.stages_recomputeNow (w : Work) : w.Stages w.recomputeNow := by
  unfold Work.recomputeNow
  dsimp only
  have entry : w.Stages (if w.overrunEntry then w.raiseOverrun else w) :=
    .ite (fun _ => w.stages_raiseOverrun) fun _ => .refl
  have check (w' : Work) : w'.Stages (if w'.s.overruns then w'.raiseOverrun.compute else w') :=
    .ite (fun _ => w'.stages_raiseOverrun.trans (Work.stages_compute _)) fun _ => .refl
  exact ((entry.trans (Work.stages_compute _)).trans (check _)).trans
    (Work.Stage.stages (.owe rfl id id))

theorem Work.stages_settle (before : State) (w : Work) : w.Stages (w.settle before) := by
  unfold Work.settle
  exact .ite (fun _ => w.stages_recomputeNow) fun _ => .refl

/-! ### Position -/

theorem State.enterUpTo_eq (s : State) (front : Nat) :
    (enterUpTo front s.route.entries s.route.first 0 s).1
      = s.setClaims (enterUpTo front s.route.entries s.route.first 0 s).1.claims := by
  obtain ⟨k, h⟩ := enterUpTo_claims front s.route.entries s.route.first 0 s
  rw [h]
  rfl

theorem Work.stages_positionChange (w : Work) : w.Stages w.positionChange := by
  unfold Work.positionChange
  split
  · exact w.stages_owe
  next front h =>
    have enter : w.s.Edits (enterUpTo front w.s.route.entries w.s.route.first 0 w.s).1 :=
      w.s.enterUpTo_eq front ▸ (State.Edit.claims (.enter front h)).edits
    have moved := enter.trans ((State.Edit.layout .release).edits.trans (State.edits_claimAhead _))
    exact moved.stages.trans (Work.Stage.stages (.owe rfl (fun _ => rfl) id))

theorem Work.stages_takeDistance (w : Work) (d : Nat) : w.Stages (w.takeDistance d) := by
  unfold Work.takeDistance
  split
  next p hs hp =>
    refine .ite (fun _ => w.stages_raise _) fun _ => .ite (fun _ => .refl) fun _ => ?_
    refine .trans ?_ (Work.stages_positionChange _)
    exact (Work.Stages.on (w := w) (State.Edit.pos (.move p d hs hp)).edits).trans
      (Work.stages_ite_raise _ .positionLost (w.s.pos.sinceFix ≤ w.s.config.params.fixGapMax ∧ w.s.config.params.fixGapMax < satAdd Config.saturation w.s.pos.sinceFix d))
  · exact .refl

theorem Work.stages_fix (w : Work) (cell : CellId) (p : RoutePos) (j : Nat) (hs : w.s.pos.start = true)
    (hj : w.s.route.indexOfCell cell = some j) : w.Stages (w.fix cell p j) := by
  have missed : w.s.Edits (if j = p.index + 2 then w.s.count .missedFixes else w.s) := by
    split
    · exact w.s.edits_count _
    · exact .refl
  unfold Work.fix
  dsimp only
  generalize hs1 : (if j = p.index + 2 then w.s.count .missedFixes else w.s) = s1 at missed
  have h1 : s1.pos = w.s.pos ∧ s1.route = w.s.route := by
    rw [← hs1]; split <;> exact ⟨rfl, rfl⟩
  obtain ⟨n, hn⟩ : ∃ n : Notice, Notice.fixDisagreement cell
    ((w.s.route.startOf j : Int) - (w.s.route.distance p : Int)) w.s.pos.u = n := ⟨_, rfl⟩
  rw [hn]
  generalize hs2 : (if w.s.pos.u + w.s.config.params.fixTol
      < ((w.s.route.startOf j : Int) - (w.s.route.distance p : Int)).natAbs then
        (s1.latch .fixDisagreement).queueNotice n else s1) = s2
  have disagree : s1.Edits s2 ∧ s2.pos = s1.pos ∧ s2.route = s1.route := by
    rw [← hs2]
    split
    · obtain ⟨l, h⟩ := (s1.latch .fixDisagreement).queueNotice_link n
      refine ⟨(s1.edits_latch _).trans (State.edits_queueNotice _ _), ?_, ?_⟩
      · rw [h]; rfl
      · rw [h]; rfl
    · exact ⟨.refl, rfl, rfl⟩
  obtain ⟨hedits, hpos, hroute⟩ := disagree
  have fixed : s2.Edits (s2.setPos { s2.pos with pos := some ⟨j, 0⟩, base := 0, sinceFix := 0, offRoute := 0 }) :=
    (State.Edit.pos (.fix j cell (by rw [hpos, h1.1, hs]) (by rw [hroute, h1.2, hj]))).edits
  refine .trans ((missed.trans hedits).trans fixed).stages ?_
  refine .trans (Work.stages_ite_raise _ .positionLost
    ((decide ((w.s.route.startOf j : Int) - (w.s.route.distance p : Int) < 0) &&
      decide ((w.s.route.startOf j : Int) < (w.s.config.params.vehicleLength : Int))) = true)) ?_
  refine .trans (Work.stages_positionChange _) (.on ?_)
  split
  · exact (State.Edit.ctl (.satisfy _)).edits
  · exact .trans (State.Edit.ctl (.satisfy .positionLost)).edits (State.Edit.ctl (.satisfy .offRoute)).edits

theorem Work.stages_offRouteRead (w : Work) : w.Stages w.offRouteRead := by
  unfold Work.offRouteRead
  refine .ite (fun h => ?_) fun _ => .ite (fun _ => ?_) fun _ => .refl
  · exact .on (State.Edit.pos (.offRoute _ (by omega))).edits
  · exact (Work.Stages.on (State.Edit.pos (.offRoute 2 (by decide))).edits).trans (Work.stages_raise _ _)

theorem Work.stages_read (w : Work) (cell : CellId) : w.Stages (w.read cell) := by
  unfold Work.read
  split
  next p hs hp =>
    refine .ite (fun _ => .refl) fun _ => ?_
    split
    next j hj =>
      refine .ite (fun _ => w.stages_fix cell p j hs hj) fun _ => .on ?_
      exact (w.s.edits_count _).trans (State.Edit.pos (.offRoute 0 (by decide))).edits
    next => exact w.stages_offRouteRead
  next => exact .on (w.s.edits_count _)

theorem Work.stages_start (w : Work) (index offset : Nat) (hmode : w.s.ctl.mode = .listen)
    (hstart : w.s.pos.start = false) (h : w.s.startRefusal index offset = none) :
    w.Stages (w.start index offset) := by
  refine .trans (State.Edit.layout (.start index offset hmode hstart h)).edits.stages ?_
  unfold Work.start
  dsimp only
  refine .trans ?_ (Work.stages_listenExit _)
  refine .trans ?_ (Work.stages_ite_raise _ _ _)
  exact Work.Stage.stages (.owe rfl (fun _ => rfl) id)

/-! ### Contests and peers -/

theorem State.edits_lateContest (s : State) (e : PeerEntry) (k : Contest) :
    s.Edits (s.lateContest e k) := by
  unfold State.lateContest
  split
  · exact (s.edits_latch _).trans ((State.edits_count _ _).trans (State.edits_queueNotice _ _))
  · exact .refl

/-- A run over a list is a chain where each of its steps is. -/
theorem Work.stages_foldl {α : Type} {f : Work → α → Work} (h : ∀ (w : Work) a, w.Stages (f w a)) (as : List α)
    (w : Work) : w.Stages (as.foldl f w) := by
  induction as generalizing w with
  | nil => exact .refl
  | cons a as ih => exact (h w a).trans (ih _)

theorem State.edits_foldl {α : Type} {f : State → α → State} (h : ∀ (s : State) a, s.Edits (f s a)) (as : List α)
    (s : State) : s.Edits (as.foldl f s) := by
  induction as generalizing s with
  | nil => exact .refl
  | cons a as ih => exact (h s a).trans (ih _)

theorem Work.stages_contest (w : Work) (e : PeerEntry) : w.Stages (w.contest e) := by
  have late := State.edits_foldl (fun s k => s.edits_lateContest e k) (w.s.contests w.s.commit? e) w.s
  have block (s : State) (n : Notice) (b : Bool) :
      s.Edits (if b then (s.latch .mutualBlock).queueNotice n else s) := by
    split
    · exact (s.edits_latch _).trans (State.edits_queueNotice _ _)
    · exact .refl
  have yielded (s : State) (k : Option Contest) :
      s.Edits (match k with | some k => s.yieldClaim k.claim.identity | none => s) := by
    split
    · exact s.edits_yieldClaim _
    · exact .refl
  exact ((late.trans (block _ _ _)).trans (yielded _ _)).stages.trans
    ((Work.stages_ite_raise _ .collisionRisk _).trans (Work.stages_ite_raise _ .startConflict _))

theorem Work.stages_peersChanged (w : Work) : w.Stages w.peersChanged :=
  (Work.Stages.on w.s.edits_evaluatePromotion).trans (Work.stages_owe _)

theorem Work.stages_storePeer (w : Work) (k : Nat) (e : PeerEntry)
    (h : w.s.PeerEdit { w.s.peers with slots := w.s.peers.slots.set k (some e) }) :
    w.Stages (w.storePeer k e) := by
  unfold Work.storePeer
  refine .trans (.on ?_) ((Work.stages_contest _ e).trans (Work.stages_peersChanged _))
  exact (State.Edit.peers h).edits.trans (State.edits_count _ _)

theorem State.edits_removePeer (s : State) (k : Nat) (e : PeerEntry) (evicted : Bool) :
    s.Edits (s.removePeer k e evicted) :=
  (s.edits_queueNotice _).trans (State.Edit.peers (.remove k)).edits

/-- A slot that an empty table search names is empty. -/
theorem PeerTable.emptySlot_empty {t : PeerTable} {k : Nat} (h : t.emptySlot = some k) :
    t.slots[k]? = some none := by
  rw [PeerTable.emptySlot, List.findIdx?_eq_some_iff_getElem] at h
  obtain ⟨hk, hnone, -⟩ := h
  rw [List.getElem?_eq_getElem hk, Option.some_inj]
  simpa using hnone

/-- The slot that the search for the oldest STALE entry names is one of the slots looked at. -/
theorem oldestStale_lt {slots : List (Option PeerEntry)} {k n : Nat} {best : Option (Nat × PeerEntry)}
    {r : Nat × PeerEntry} (h : oldestStale slots k best = some r)
    (hb : ∀ b, best = some b → b.1 < n) (hn : k + slots.length ≤ n) : r.1 < n := by
  induction slots generalizing k best with
  | nil => exact hb r h
  | cons o rest ih =>
    rw [List.length_cons] at hn
    have hk : ∀ e : PeerEntry, ∀ b, some (k, e) = some b → b.1 < n := by
      rintro e _ ⟨⟩
      show k < n
      omega
    cases o with
    | none => exact ih h hb (by omega)
    | some e =>
      unfold oldestStale at h
      split at h
      · split at h
        · exact ih h (hk e) (by omega)
        · split at h
          · exact ih h (hk e) (by omega)
          · exact ih h hb (by omega)
      · exact ih h hb (by omega)

/-- Emptying a slot leaves a station without an entry where it had none. -/
theorem PeerTable.slotOf_set_none {t : PeerTable} {k : Nat} {id : StationId} (h : t.slotOf id = none) :
    ({ t with slots := t.slots.set k none } : PeerTable).slotOf id = none := by
  rw [PeerTable.slotOf, List.findIdx?_eq_none_iff] at h ⊢
  intro o ho
  obtain hmem | rfl := List.mem_or_eq_of_mem_set ho
  · exact h o hmem
  · rfl

theorem Work.stages_takeBeacon (w : Work) {b : Beacon} {body : List Byte} {e : PeerEntry}
    (hb : readBeacon body = some b) (he : checkBeacon b w.s.now = some e) : w.Stages (w.takeBeacon e) := by
  unfold Work.takeBeacon
  refine .ite (fun _ => w.stages_raise _) fun hid => ?_
  split
  next k hk =>
    split
    · exact .ite (fun _ => w.stages_storePeer k e (.store k b body e hb he hid (.inl hk))) fun _ => .refl
    · exact .refl
  next hnone =>
    split
    next k hk =>
      exact w.stages_storePeer k e
        (.store k b body e hb he hid (.inr ⟨hnone, PeerTable.emptySlot_empty hk⟩))
    next =>
      split
      next k old hk =>
        have hlt : k < w.s.peers.slots.length := oldestStale_lt hk (by simp) (by omega)
        obtain ⟨l, hl⟩ := w.s.queueNotice_link (.peerLost old.id old.occupiedCount true)
        have hrem : (w.on (·.removePeer k old true)).s.peers
            = { w.s.peers with slots := w.s.peers.slots.set k none } := by
          simp only [Work.on, State.removePeer, hl, State.putSlot_peers, State.setLink_peers]
        have hnow : (w.on (·.removePeer k old true)).s.now = w.s.now := by
          simp only [Work.on, State.removePeer, hl, State.putSlot_now, State.setLink_now]
        have hconf : (w.on (·.removePeer k old true)).s.config = w.s.config := by
          simp only [Work.on, State.removePeer, hl, State.putSlot_config, State.setLink_config]
        refine (Work.Stages.on (w.s.edits_removePeer k old true)).trans
          (Work.stages_storePeer _ k e (.store k b body e hb ?_ ?_ (.inr ⟨?_, ?_⟩)))
        · rw [hnow]; exact he
        · rw [hconf]; exact hid
        · rw [hrem]; exact PeerTable.slotOf_set_none hnone
        · rw [hrem]; exact List.getElem?_set_self hlt
      next =>
        exact .on (.trans (.trans (w.s.edits_count .tableOverflows) (State.edits_latch _ _))
          (State.Edit.peers (.hold _)).edits)

theorem Work.stages_receive (w : Work) (body : List Byte) : w.Stages (w.receive body) := by
  unfold Work.receive
  split
  · exact .on (w.s.edits_count _)
  next b hb =>
    refine .ite (fun _ => .refl) fun _ => ?_
    split
    · exact .on (w.s.edits_count _)
    next e he => exact w.stages_takeBeacon hb he

theorem State.makeStale_eq (s : State) (k : Nat) : s.makeStale k = s.setPeers (s.makeStale k).peers := by
  unfold State.makeStale
  split <;> rfl

theorem State.edits_makeStale (s : State) (k : Nat) : s.Edits (s.makeStale k) :=
  s.makeStale_eq k ▸ (State.Edit.peers (.makeStale k)).edits

theorem Work.stages_dropPeer (w : Work) (k : Nat) : w.Stages (w.dropPeer k) := by
  unfold Work.dropPeer
  split
  · exact (Work.Stages.on (w.s.edits_removePeer k _ false)).trans (Work.stages_peersChanged _)
  · exact .refl

theorem Work.stages_ageSlot (w : Work) (k : Nat) : w.Stages (w.ageSlot k) := by
  unfold Work.ageSlot
  dsimp only
  have stale : w.Stages (if w.s.staleDue k then w.on (·.makeStale k) else w) :=
    .ite (fun _ => .on (w.s.edits_makeStale k)) fun _ => .refl
  exact stale.trans (.ite (fun _ => Work.stages_dropPeer _ k) fun _ => .refl)

theorem Work.stages_ageAll (w : Work) : w.Stages w.ageAll :=
  Work.stages_foldl (fun w k => w.stages_ageSlot k) _ w

/-! ### Beacons in flight and the air port -/

theorem State.edits_clearInFlight (s : State) : s.Edits s.clearInFlight :=
  (State.Edit.beacon .settled).edits

theorem Work.stages_beaconFailed (w : Work) : w.Stages w.beaconFailed := by
  unfold Work.beaconFailed
  dsimp only
  refine .trans (.trans (.on (.trans (w.s.edits_count .beaconsDropped) ?_))
    (Work.stages_ite_raise _ .airFault _)) (.on (State.edits_clearInFlight _))
  exact (State.Edit.beacon (.failures _ (Nat.min_le_left _ _))).edits

theorem Work.stages_txDone (w : Work) (body : List Byte) : w.Stages (w.txDone body) := by
  unfold Work.txDone
  split
  · refine .ite (fun _ => .refl) fun _ => .ite (fun _ => .on (w.s.edits_beaconConfirmed _)) fun _ => ?_
    exact .ite (fun _ => w.stages_beaconFailed) fun _ => .refl
  · exact .refl

theorem Work.stages_airEvent (w : Work) (k : AirEvent) : w.Stages (w.airEvent k) := by
  cases k with
  | tooLong => exact Work.Stages.on (f := (·.count .beaconsRejected)) (w.s.edits_count _)
  | frame kind body =>
    refine .ite (fun _ => w.stages_txDone body) fun _ => .ite (fun _ => w.stages_receive body) fun _ => ?_
    exact Work.Stages.on (f := (·.count .beaconsRejected)) (w.s.edits_count _)

theorem Work.stages_supervisionExpired (w : Work) : w.Stages w.supervisionExpired := by
  refine .trans (.on ?_) (Work.stages_raise _ .driveSilent)
  exact (w.s.edits_count .supervisionExpiries).trans (State.Edit.link .forget).edits

/-! ### The load -/

theorem Work.stages_loadDone (w : Work) {c : ConfigLoader} (rate : Option LinkRate)
    (hl : w.s.config.loading = true) (hc : w.s.config.Loaded c) : w.Stages (w.loadDone c rate) := by
  unfold Work.loadDone Work.enterListen
  dsimp only
  have load := Work.Stage.load hl hc rate
  cases rate with
  | none => exact .trans load.stages (Work.stages_ite_raise _ _ _)
  | some r => exact .trans load.stages (Work.stages_ite_raise _ _ _)

theorem State.edits_loadFault (s : State) (f : InitFault) : s.Edits (s.loadFault f) :=
  (State.Edit.ctl (.fault f)).edits.trans (State.Edit.loadOver (s := s.setCtl { s.ctl with initFault := f })).edits

theorem Work.stages_loadEnd (w : Work) (memory : List Byte) (hl : w.s.config.loading = true) :
    w.Stages (w.loadEnd memory) := by
  unfold Work.loadEnd
  dsimp only
  refine .ite (fun _ => .on (w.s.edits_loadFault .badId)) fun _ => ?_
  split
  · exact w.stages_loadDone _ hl .defaults
  · exact .on (w.s.edits_loadFault .configBad)
  next h => exact w.stages_loadDone _ hl (.record memory _ _ h)

end Sys2Proof.Machine

/-!
PROOF. The inputs, the time base and the model's own fields through an event; the requests as chains of
stages; and every command as a chain of moves.
-/

namespace Sys2Proof.Machine

/-! ### What lies outside an event -/

/-- The inputs, the time base and the model's own fields, together. -/
def State.outside (s : State) : List Byte × Bool × Bool × Bool × Nat × List Instr × Nat :=
  (s.readerRx, s.extPin, s.resetPin, s.supplyLost, s.now, s.pending, s.freeCount)

theorem State.outside_eq_iff {s t : State} : t.outside = s.outside ↔ s.sameOutside t := by
  simp only [State.outside, Prod.mk.injEq]

theorem State.held_of_outside {s t : State} (h : t.outside = s.outside) : t.held = s.held := by
  obtain ⟨-, -, h1, h2, -⟩ := State.outside_eq_iff.mp h
  rw [State.held, State.held, h1, h2]

theorem State.now_of_outside {s t : State} (h : t.outside = s.outside) : t.now = s.now := by
  obtain ⟨-, -, -, -, h, -⟩ := State.outside_eq_iff.mp h
  exact h

theorem addStartClaims_eq (n i : Nat) (s : State) :
    ∃ k, addStartClaims n i s = s.setClaims k := by
  induction n generalizing i s with
  | zero => exact ⟨s.claims, rfl⟩
  | succ n ih =>
    unfold addStartClaims
    split
    · exact ⟨s.claims, rfl⟩
    · obtain ⟨k, h⟩ := ih (i + 1) (s.addClaim (s.newClaim i _ .occupied 2 (some s.now)))
      exact ⟨k, by rw [h]; rfl⟩

theorem State.startClaims_eq (s : State) : ∃ k r, s.startClaims = (s.setClaims k).setRoute r := by
  unfold State.startClaims
  split
  · split
    · obtain ⟨k, h⟩ := addStartClaims_eq _ _ s
      rw [h]
      exact ⟨_, _, rfl⟩
    · exact ⟨s.claims, s.route, rfl⟩
  · exact ⟨s.claims, s.route, rfl⟩

theorem State.release_eq (s : State) : ∃ k r, s.release = (s.setClaims k).setRoute r := by
  obtain ⟨k, h⟩ := s.release_spec
  exact ⟨_, _, h⟩

/-- A change of the layout leaves every block but route, claims and position. -/
theorem State.LayoutEdit.eq {s t : State} (h : s.LayoutEdit t) :
    t = ((s.setRoute t.route).setClaims t.claims).setPos t.pos := by
  cases h with
  | release => obtain ⟨k, r, h⟩ := s.release_eq; rw [h]; rfl
  | start =>
    obtain ⟨k, r, h⟩ := State.startClaims_eq (s.setPos { s.pos with
      start := true, pos := some ⟨_, _⟩, base := s.config.params.startUnc, sinceFix := 0, offRoute := 0 })
    rw [h]; rfl
  | append => rfl
  | truncate => rfl
  | clearRoute => rfl
  | releaseStop => rfl
  | truncated => rfl

theorem State.Edit.outside {s t : State} (h : s.Edit t) : t.outside = s.outside := by
  cases h with
  | layout h => rw [h.eq]; rfl
  | _ => rfl

theorem State.recordCause_eq (s : State) (c : Cause) : s.recordCause c =
    (s.setCtl (s.recordCause c).ctl).setLink (s.recordCause c).link := by
  obtain ⟨m, l, h, -⟩ := s.recordCause_spec c
  rw [h]
  rfl

theorem Work.enterStopped_outside (w : Work) : w.enterStopped.s.outside = w.s.outside := by
  obtain ⟨l, h, -⟩ := w.enterStopped_spec
  rw [h]
  rfl

theorem State.listening_outside (s : State) : s.listening.outside = s.outside := rfl

theorem Work.enterParked_outside (w : Work) : w.enterParked.s.outside = w.s.outside := rfl

theorem State.orderRate_eq (s : State) (r : LinkRate) :
    s.orderRate r = (s.setConfig (s.orderRate r).config).setLink (s.orderRate r).link := by
  obtain ⟨-, h⟩ | ⟨-, -, h⟩ | ⟨-, -, h⟩ := s.orderRate_cases r
  · rw [h]; rfl
  · rw [h]; rfl
  · rw [h]; rfl

theorem Work.Stage.outside {w w' : Work} (h : w.Stage w') : w'.s.outside = w.s.outside := by
  cases h with
  | edit h => exact h.outside
  | owe hs => rw [hs]
  | stop => exact w.enterStopped_outside
  | stopFor c =>
    rw [Work.enterStopped_outside]
    show (w.s.recordCause c).outside = _
    rw [w.s.recordCause_eq c]
    rfl
  | serve =>
    show (State.claimAhead _).outside = _
    rw [State.claimAhead_eq]
    rfl
  | park => exact w.enterParked_outside
  | relisten => rfl
  | load hl hc rate =>
    cases rate with
    | none => rfl
    | some r =>
      show (State.listening (State.orderRate _ r)).outside = _
      rw [State.listening_outside, State.orderRate_eq]
      rfl

theorem Work.Stages.outside {w w' : Work} (h : w.Stages w') : w'.s.outside = w.s.outside :=
  h.keeps (P := fun x => x.s.outside = w.s.outside) (fun _ _ hst hx => hst.outside.trans hx) rfl

theorem Work.close_outside (w : Work) : w.close.outside = w.s.outside := by
  obtain ⟨l, h⟩ := w.close_link
  rw [h]
  rfl

theorem State.transmit_outside (s : State) : s.transmit.outside = s.outside := by
  obtain ⟨l, h⟩ := s.transmit_link
  rw [h]
  rfl

theorem Work.dropAtRest_outside (w : Work) (v : Nat) : (w.dropAtRest v).s.outside = w.s.outside := by
  unfold Work.dropAtRest
  split <;> rfl

/-! ### An event as a move -/

/-- A report that is not of speed 0 drops nothing at rest. -/
theorem Work.dropAtRest_moving (w : Work) : w.dropAtRest 1 = w := by
  unfold Work.dropAtRest
  exact if_neg fun h => absurd h.2 (by decide)

theorem State.moves_event (s : State) (f : Work → Work) (hh : s.held = false)
    (h : (Work.begin s).Stages (f (Work.begin s))) :
    s.Moves (s.event f) := by
  have done := State.Move.event s 1 hh h
  rw [Work.dropAtRest_moving] at done
  exact done.moves.trans (State.Move.transmit).moves

theorem State.event_outside (s : State) (f : Work → Work)
    (h : (Work.begin s).Stages (f (Work.begin s))) : (s.event f).outside = s.outside := by
  show (State.transmit (Work.close _)).outside = _
  rw [State.transmit_outside, Work.close_outside, (Work.stages_settle s _).outside]
  exact h.outside

/-- A run of a receiver's events: each is a chain of moves while the part is not held in reset. -/
theorem State.moves_foldl {α : Type} {f : State → α → State}
    (h : ∀ (s : State) a, s.held = false → s.Moves (f s a) ∧ (f s a).outside = s.outside) (as : List α)
    (s : State) (hh : s.held = false) : s.Moves (as.foldl f s) := by
  induction as generalizing s with
  | nil => exact .refl
  | cons a as ih =>
    obtain ⟨hm, ho⟩ := h s a hh
    exact hm.trans (ih _ ((State.held_of_outside ho).trans hh))

/-! ### Requests -/

/-- The work of a request is a chain of stages. -/
def Answered (f : Work → Answer) : Prop := ∀ w : Work, w.Stages (f w).work

theorem State.setPos_self (s : State) : s.setPos s.pos = s := rfl

theorem Work.stages_appendRoute (payload : List Byte) : Answered (·.appendRoute payload) := by
  intro w
  dsimp only [Work.appendRoute]
  split
  · exact .refl
  next h =>
    refine .trans (State.Edit.layout (.append (routeSlots payload) payload rfl h)).edits.stages ?_
    have tail (t : State) : Work.Stages { w with s := t } { w with s := t, claimsAlone := false } :=
      Work.Stage.stages (.owe rfl id id)
    dsimp only [Work.carryAppended, Work.answer, Work.on]
    split
    next p hp =>
      have hp' : w.s.pos.pos = some p := hp
      rw [hp', Option.map_some]
      split
      next hc =>
        have same : (w.s.append (routeSlots payload)).setPos { w.s.pos with
            pos := some ((w.s.append (routeSlots payload)).route.carryOn p) }
              = w.s.append (routeSlots payload) := by
          rw [hc, ← hp']; rfl
        rw [same]
        exact (tail _).trans (.on (State.edits_claimAhead _))
      next => exact (tail _).trans (Work.stages_positionChange _)
    next hp =>
      have hp' : w.s.pos.pos = none := hp
      rw [hp', Option.map_none]
      have same : (w.s.append (routeSlots payload)).setPos { w.s.pos with pos := none }
          = w.s.append (routeSlots payload) := by
        rw [← hp']; rfl
      rw [same]
      exact (tail _).trans (.on (State.edits_claimAhead _))

theorem Work.stages_truncateRoute : Answered Work.truncateRoute := by
  intro w
  unfold Work.truncateRoute
  split
  · exact .refl
  · exact .refl
  next hr =>
    split
    next hs => exact .on (State.Edit.layout (.truncate hr hs)).edits
    next hs => exact (State.Edit.layout (.clearRoute (Bool.eq_false_iff.mpr hs))).edits.stages (w := w)

theorem Work.stages_proceed : Answered Work.proceed := by
  intro w
  unfold Work.proceed
  split
  · exact .refl
  · split
    · exact .refl
    · exact (Work.Stages.on ((State.Edit.layout .releaseStop).edits.trans (State.edits_claimAhead _))).trans
        (Work.stages_owe _)

theorem Work.stages_setStart (index : Byte) (offset : Half) : Answered (·.setStart index offset) := by
  intro w
  dsimp only [Work.setStart]
  split
  · exact .refl
  next hm =>
    rw [not_or, Classical.not_not, Bool.not_eq_true] at hm
    split
    · exact .refl
    next h => exact w.stages_start _ _ hm.1 hm.2 h

theorem Work.stages_setUrgency (v : Byte) : Answered (·.setUrgency v) := fun w =>
  (State.Edit.claims (.urgency _ (Nat.min_le_left 3 v.toNat))).edits.stages (w := w)

theorem Work.stages_clearPeer (id : StationId) : Answered (·.clearPeer id) := by
  intro w
  dsimp only [Work.clearPeer]
  split
  · exact .refl
  · split
    · exact .refl
    · split
      · exact .refl
      · exact w.stages_dropPeer _

theorem Work.stages_airReset : Answered Work.airReset := fun w =>
  (State.Edit.beacon .reset).edits.stages (w := w)

theorem Work.stages_park : Answered Work.park := by
  intro w
  unfold Work.park
  split
  · exact .refl
  next h =>
    split
    · exact .refl
    · exact Work.Stage.stages (.park (Classical.not_not.mp h))

theorem Work.stages_unpark : Answered Work.unpark := by
  intro w
  unfold Work.unpark
  split
  · exact .refl
  next h =>
    have hm : w.s.ctl.mode = .parked := Classical.not_not.mp h
    exact Work.Stage.stages (.serve (by rw [hm]; decide) (.inl hm))

theorem Work.stages_resume : Answered Work.resume := by
  intro w
  unfold Work.resume
  split
  · exact .refl
  next h =>
    have hm : w.s.ctl.mode = .stopped := Classical.not_not.mp h
    split
    · exact .refl
    · split
      · exact .refl
      · have hm' : (w.on (·.clearCauses)).s.ctl.mode = .stopped := hm
        refine .trans (Work.Stages.on (f := (·.clearCauses)) (State.Edit.ctl .clear).edits) ?_
        show Work.Stages _ (Work.resumed w)
        unfold Work.resumed
        dsimp only
        split
        · exact Work.Stage.stages (.serve (by rw [hm']; decide) (.inr rfl))
        · exact Work.Stage.stages (.relisten hm')

theorem Work.stages_lengthChanged (w : Work) : w.Stages w.lengthChanged := by
  unfold Work.lengthChanged
  refine .trans ?_ (Work.stages_positionChange _)
  split
  · exact w.stages_ite_raise _ _
  · exact .refl

theorem Work.stages_listenExpired (w : Work) : w.Stages w.listenExpired :=
  (Work.Stages.on (w := w) (State.Edit.ctl .listened).edits).trans (Work.stages_listenExit _)

theorem Work.stages_paramEffects (w : Work) (old : Params) : w.Stages (w.paramEffects old) := by
  have length (w : Work) : w.Stages (if w.s.pos.start = true
      ∧ w.s.config.params.vehicleLength ≠ old.vehicleLength then w.lengthChanged else w) :=
    .ite (fun _ => w.stages_lengthChanged) fun _ => .refl
  have gap (w : Work) : w.Stages (if w.s.pos.start = true ∧ w.s.pos.sinceFix ≤ old.fixGapMax
      ∧ w.s.config.params.fixGapMax < w.s.pos.sinceFix then w.raise .positionLost else w) :=
    .ite (fun _ => w.stages_raise _) fun _ => .refl
  have ages (w : Work) : w.Stages (if w.s.config.params.peerStale ≠ old.peerStale
      ∨ w.s.config.params.peerExpire ≠ old.peerExpire then w.ageAll else w) :=
    .ite (fun _ => w.stages_ageAll) fun _ => .refl
  have listened (w : Work) : w.Stages (if w.s.config.params.listenMs ≠ old.listenMs
      ∧ w.s.listenDue = true then w.listenExpired else w) :=
    .ite (fun _ => w.stages_listenExpired) fun _ => .refl
  exact (length w).trans ((gap _).trans ((ages _).trans (listened _)))

theorem Work.stages_setParam (id : Byte) (v : Nat) : Answered (·.setParam id v) := by
  intro w
  dsimp only [Work.setParam]
  split
  · exact Work.Stages.on (f := (·.latch .configWriteRefused)) (w.s.edits_latch _)
  next h =>
    have hm : w.s.ctl.mode ≠ .serving := by rw [Classical.not_not.mp h]; decide
    split
    · exact .refl
    · split
      · exact .refl
      · exact (Work.Stages.on (w := w) (State.Edit.config hm (.store _ v)).edits).trans
          (Work.stages_paramEffects _ _)

theorem Work.stages_setClass (index : Byte) (cap : Half) (flags : Byte) (hold : Half) :
    Answered (·.setClass index cap flags hold) := by
  intro w
  dsimp only [Work.setClass]
  split
  · exact Work.Stages.on (f := (·.latch .configWriteRefused)) (w.s.edits_latch _)
  next h =>
    have hm : w.s.ctl.mode ≠ .serving := by rw [Classical.not_not.mp h]; decide
    split
    · exact .refl
    · exact (State.Edit.config hm (.setClass index.toNat cap flags hold)).edits.stages (w := w)

theorem Answered.data (f : Work → List Byte) : Answered fun w => w.answerWith (f w) :=
  fun _ => Work.Stages.refl

theorem Answered.code (c : ResultCode) : Answered (·.answer c) := fun _ => Work.Stages.refl

theorem Work.stages_readPeer (slot : Byte) : Answered (·.readPeer slot) := by
  intro w
  dsimp only [Work.readPeer]
  split
  · exact .refl
  · split <;> exact .refl

theorem Work.stages_clearCounters : Answered Work.clearCounters := fun w =>
  (State.Edit.link .clearCounters).edits.stages (w := w)

theorem Work.stages_clearLatched : Answered Work.clearLatched := fun w =>
  (State.Edit.link .clearLatched).edits.stages (w := w)

/-! ### Requests as moves -/

/-- A taken request leaves what waits and what is sent: no response waits after the taking either. -/
theorem State.takeRequest_cases {s t : State} {f : Frame} (h : s.takeRequest f = some t) :
    s.Moves t ∧ t.held = s.held ∧ t.link.responseWaiting = false
      ∧ t = s.setLink { s.link with intake := s.link.intake.tail } := by
  unfold State.takeRequest at h
  split at h
  · cases h
  next hw =>
    have hw := Bool.eq_false_iff.mpr hw
    split at h
    next hi =>
      obtain rfl := Option.some.inj h
      exact ⟨.refl, rfl, hw, by rw [hi]; exact congrArg s.setLink (by rw [List.tail_nil, ← hi])⟩
    next x rest hi =>
      split at h
      · obtain rfl := Option.some.inj h
        exact ⟨(State.Move.take hi).moves, rfl, hw, by rw [hi]; rfl⟩
      · cases h

theorem State.moves_answered (s : State) (type : Byte) {f : Work → Answer} (hh : s.held = false)
    (hr : s.link.responseWaiting = false)
    (h : (Work.begin s).Stages (f (Work.begin s)).work) : s.Moves (s.answered type f) :=
  (State.Move.answer s type _ _ hh hr h).moves.trans (State.Move.transmit).moves

theorem State.moves_request (s : State) (type : Byte) (n : Nat) (payload : List Byte)
    {f : Work → Answer} (h : Answered f) : s.Moves (s.request type n payload f) := by
  unfold State.request
  split
  · exact .refl
  next hh =>
    have hh := Bool.eq_false_iff.mpr hh
    split
    · exact .refl
    next t ht =>
      obtain ⟨hm, hheld, hr, -⟩ := State.takeRequest_cases ht
      refine hm.trans (t.moves_answered type (hheld.trans hh) hr ?_)
      split
      · exact .refl
      · split
        · exact .refl
        · exact h _

theorem State.moves_unknown (s : State) (type : Byte) (payload : List Byte) :
    s.Moves (s.unknown type payload) := by
  unfold State.unknown
  split
  · exact .refl
  next hh =>
    have hh : s.held = false := Bool.eq_false_iff.mpr fun h => hh (.inl h)
    split
    · exact .refl
    next t ht =>
      obtain ⟨hm, hheld, hr, -⟩ := State.takeRequest_cases ht
      exact hm.trans (t.moves_answered type (hheld.trans hh) hr (Answered.code _ _))

/-! ### Arrivals as moves -/

theorem State.moves_unmatched (s : State) : s.Moves s.unmatched :=
  (State.Move.count _).moves.trans (State.Move.latch _).moves

theorem State.unmatched_outside (s : State) : s.unmatched.outside = s.outside := rfl

theorem State.issuePending_outside (s : State) : s.issuePending.outside = s.outside := by
  unfold State.issuePending
  split
  · obtain ⟨l, h⟩ := (s.setLink { s.link with pendingIssue := false }).issueAuthority_link
    rw [h]
    rfl
  · rfl

theorem State.moves_matchEcho (s : State) (echo : Byte) :
    s.Moves (s.matchEcho echo) ∧ (s.matchEcho echo).outside = s.outside := by
  unfold State.matchEcho
  split
  next hm =>
    have freed (outs : List Outstanding) (h : outs.length ≤ s.link.outstanding.length) :
        s.Moves (s.setLink { s.link with outstanding := outs }).issuePending
        ∧ (s.setLink { s.link with outstanding := outs }).issuePending.outside = s.outside :=
      ⟨(State.Move.echo outs h hm).moves.trans
          (State.Move.issuePending (s := s.setLink { s.link with outstanding := outs }) hm).moves,
        State.issuePending_outside _⟩
    split
    · exact ⟨s.moves_unmatched, rfl⟩
    next o rest hout =>
      split
      · exact freed rest (by rw [hout]; exact Nat.le_succ _)
      · split
        · exact freed [] (Nat.zero_le _)
        · exact ⟨s.moves_unmatched, rfl⟩
  · split
    · exact ⟨.refl, rfl⟩
    · exact ⟨s.moves_unmatched, rfl⟩

theorem State.moves_takeReport (s : State) (echo : Byte) (d v : Nat) (hh : s.held = false) :
    s.Moves (s.takeReport echo d v) ∧ (s.takeReport echo d v).outside = s.outside := by
  unfold State.takeReport
  split
  · exact ⟨.refl, rfl⟩
  · obtain ⟨hm, ho⟩ := s.moves_matchEcho echo
    dsimp only
    have speed : (Work.begin (s.matchEcho echo)).Stages (Work.begin ((s.matchEcho echo).takeSpeed v)) :=
      (State.edits_takeSpeed (s.matchEcho echo) v).stages
    have work := speed.trans (Work.stages_takeDistance _ d)
    refine ⟨hm.trans (.trans (State.Move.event s v ((State.held_of_outside ho).trans hh) work).moves
      (State.Move.transmit).moves), ?_⟩
    rw [State.transmit_outside, Work.close_outside, Work.dropAtRest_outside,
      (Work.stages_settle s _).outside]
    exact work.outside.trans ho

theorem State.moves_arrive (s : State) (f : Frame) :
    s.Moves (s.arrive f) ∧ (s.arrive f).outside = s.outside := by
  unfold State.arrive
  split
  next h => exact ⟨(State.Move.arrive f h).moves, rfl⟩
  · exact ⟨(State.Move.count _).moves, rfl⟩

theorem State.moves_linkEvent (s : State) (e : LinkEvent) (hh : s.held = false) :
    s.Moves (s.linkEvent e) ∧ (s.linkEvent e).outside = s.outside := by
  cases e with
  | failed => exact ⟨(State.Move.count _).moves, rfl⟩
  | good f =>
    unfold State.linkEvent
    dsimp only
    split
    · split
      · exact s.moves_takeReport _ _ _ hh
      · exact ⟨(State.Move.count _).moves, rfl⟩
    · exact s.moves_arrive f

theorem State.moves_linkBytes (s : State) (bytes : List Byte) (hh : s.held = false) :
    s.Moves (s.linkBytes bytes) :=
  (State.Move.linkRx bytes _ (Nat.lt_succ_self _)).moves.trans
    (State.moves_foldl (fun s e h => s.moves_linkEvent e h) _ _ hh)

theorem State.moves_airBytes (s : State) (bytes : List Byte) (hh : s.held = false) :
    s.Moves (s.airBytes bytes) := by
  unfold State.airBytes
  split
  · exact .refl
  · refine (State.Move.airRx _).moves.trans (State.moves_foldl (fun t k h => ?_) _ _ hh)
    exact ⟨t.moves_event _ h (Work.stages_airEvent _ k), t.event_outside _ (Work.stages_airEvent _ k)⟩

theorem State.moves_readerBytes (s : State) (bytes : List Byte) (hh : s.held = false) :
    s.Moves (s.readerBytes bytes) := by
  unfold State.readerBytes
  dsimp only
  split
  · exact (State.Move.readerRx _).moves
  · refine (State.Move.readerRx _).moves.trans (State.moves_foldl (fun t c h => ?_) _ _ hh)
    exact ⟨t.moves_event _ h (Work.stages_read _ c), t.event_outside _ (Work.stages_read _ c)⟩

theorem State.moves_externalEdge (s : State) (b : Bool) : s.Moves (s.externalEdge b) := by
  unfold State.externalEdge
  dsimp only
  split
  · exact (State.Move.pin b).moves
  next h =>
    have hh : ({ s with extPin := b } : State).held = false :=
      Bool.eq_false_iff.mpr fun hb => h (.inl hb)
    refine (State.Move.pin b).moves.trans ((State.Move.external b).moves.trans
      (State.moves_event _ _ hh ?_))
    exact Work.stages_ite_raise _ _ _

theorem State.moves_frameSent (s : State) : s.Moves s.frameSent := by
  unfold State.frameSent
  split
  · exact .refl
  next h => exact (State.Move.sent h).moves.trans (State.Move.transmit).moves

/-! ### Timers and resets as moves -/

theorem State.moves_beaconDue (s : State) : s.Moves s.beaconDue := by
  unfold State.beaconDue
  split
  · exact (State.Move.build).moves
  · exact (State.Move.count _).moves

theorem State.moves_beaconTurn (s : State) : s.Moves s.beaconTurn := by
  unfold State.beaconTurn
  split
  · exact .refl
  · exact s.moves_beaconDue
  · exact s.moves_beaconDue
  · exact s.moves_beaconDue
  · split
    · exact (State.Move.parked _ (by omega)).moves
    · exact (State.Move.parked 0 (by decide)).moves.trans (State.moves_beaconDue _)

theorem State.moves_ifDue (s : State) (due : Bool) {f : State → State}
    (h : s.held = false → due = true → s.Moves (f s)) : s.Moves (s.ifDue due f) := by
  unfold State.ifDue
  split
  next hd => exact h hd.1 hd.2
  · exact .refl

theorem State.held_eq_false_iff {s : State} :
    s.held = false ↔ s.resetPin = false ∧ s.supplyLost = false := by
  rw [State.held, Bool.or_eq_false_iff]

theorem State.moves_releaseReset (s t : State) (straps : Straps) (a b : Bool)
    (ht : t = { s with resetPin := a, supplyLost := b })
    (hheld : (a || b) = true → s.held = true) : s.Moves (t.releaseReset straps) := by
  subst ht
  unfold State.releaseReset
  split
  next h => exact (State.Move.stillHeld a b (hheld h) h).moves
  next h =>
    obtain ⟨ha, hb⟩ := State.held_eq_false_iff.mp (Bool.eq_false_iff.mpr h)
    have ha : a = false := ha
    have hb : b = false := hb
    subst ha hb
    exact (State.Move.reset straps).moves

/-- Every command is a chain of moves. -/
theorem exec_moves (c : Instr) (s : State) : ∃ t, exec c s = .next t ∧ s.Moves t := by
  cases c with
  | powerOnReset straps =>
    exact ⟨_, rfl, s.moves_releaseReset _ straps s.resetPin false rfl fun h => by
      rw [Bool.or_false] at h
      rw [State.held, h, Bool.true_or]⟩
  | pinReset straps =>
    exact ⟨_, rfl, s.moves_releaseReset _ straps false s.supplyLost rfl fun h => by
      rw [Bool.false_or] at h
      rw [State.held, h, Bool.or_true]⟩
  | configurationLoadEnd memory =>
    exact ⟨_, rfl, s.moves_ifDue _ fun hh hl => s.moves_event _ hh (Work.stages_loadEnd _ memory hl)⟩
  | linkRateChange =>
    refine ⟨_, rfl, s.moves_ifDue _ fun _ _ => ?_⟩
    split
    · exact .refl
    · exact (State.Move.rate _).moves.trans (State.Move.transmit).moves
  | driveLinkRequestArrival bytes => exact ⟨_, rfl, s.moves_ifDue _ fun hh _ => s.moves_linkBytes _ hh⟩
  | driveReport payload crc => exact ⟨_, rfl, s.moves_ifDue _ fun hh _ => s.moves_linkBytes _ hh⟩
  | status payload => exact ⟨_, rfl, s.moves_request _ _ _ (Answered.data _)⟩
  | readClaims payload => exact ⟨_, rfl, s.moves_request _ _ _ (Answered.data _)⟩
  | readPeer payload =>
    refine ⟨_, rfl, s.moves_request _ _ _ fun w => ?_⟩
    split
    · exact Work.stages_readPeer _ w
    · exact .refl
  | readCounters payload => exact ⟨_, rfl, s.moves_request _ _ _ (Answered.data _)⟩
  | clearCounters payload => exact ⟨_, rfl, s.moves_request _ _ _ Work.stages_clearCounters⟩
  | clearLatched payload => exact ⟨_, rfl, s.moves_request _ _ _ Work.stages_clearLatched⟩
  | appendRoute payload => exact ⟨_, rfl, s.moves_request _ _ _ (Work.stages_appendRoute payload)⟩
  | truncateRoute payload => exact ⟨_, rfl, s.moves_request _ _ _ Work.stages_truncateRoute⟩
  | proceed payload => exact ⟨_, rfl, s.moves_request _ _ _ Work.stages_proceed⟩
  | setStart payload =>
    refine ⟨_, rfl, s.moves_request _ _ _ fun w => ?_⟩
    split
    · exact Work.stages_setStart _ _ w
    · exact .refl
  | setUrgency payload =>
    refine ⟨_, rfl, s.moves_request _ _ _ fun w => ?_⟩
    split
    · exact Work.stages_setUrgency _ w
    · exact .refl
  | park payload => exact ⟨_, rfl, s.moves_request _ _ _ Work.stages_park⟩
  | unpark payload => exact ⟨_, rfl, s.moves_request _ _ _ Work.stages_unpark⟩
  | resume payload => exact ⟨_, rfl, s.moves_request _ _ _ Work.stages_resume⟩
  | clearPeer payload =>
    refine ⟨_, rfl, s.moves_request _ _ _ fun w => ?_⟩
    split
    · exact Work.stages_clearPeer _ w
    · exact .refl
  | airReset payload => exact ⟨_, rfl, s.moves_request _ _ _ Work.stages_airReset⟩
  | setParam payload =>
    refine ⟨_, rfl, s.moves_request _ _ _ fun w => ?_⟩
    split
    · exact Work.stages_setParam _ _ w
    · exact .refl
  | setClass payload =>
    refine ⟨_, rfl, s.moves_request _ _ _ fun w => ?_⟩
    split
    · exact Work.stages_setClass _ _ _ _ w
    · exact .refl
  | restart payload => exact ⟨_, rfl, s.moves_request _ _ _ (Answered.code _)⟩
  | unknownRequest type payload => exact ⟨_, rfl, s.moves_unknown type payload⟩
  | restartTakesEffect =>
    refine ⟨_, rfl, s.moves_ifDue _ fun hh _ => ?_⟩
    obtain ⟨hr, hs⟩ := State.held_eq_false_iff.mp hh
    have free : s.resetBlocks s.config.straps
        = ({ s with resetPin := false, supplyLost := false } : State).resetBlocks s.config.straps := by
      simp only [State.resetBlocks, hr, hs]
    exact free ▸ (State.Move.reset s.config.straps).moves
  | transmitterFrameSent => exact ⟨_, rfl, s.moves_ifDue _ fun _ _ => s.moves_frameSent⟩
  | beaconTimerExpiry =>
    exact ⟨_, rfl, s.moves_ifDue _ fun _ _ => (State.Move.rearm).moves.trans (State.moves_beaconTurn _)⟩
  | txDone body => exact ⟨_, rfl, s.moves_ifDue _ fun hh _ => s.moves_airBytes _ hh⟩
  | beaconTxTimeout =>
    exact ⟨_, rfl, s.moves_ifDue _ fun hh _ => s.moves_event _ hh (Work.stages_beaconFailed _)⟩
  | rxFrame body => exact ⟨_, rfl, s.moves_ifDue _ fun hh _ => s.moves_airBytes _ hh⟩
  | modemFrameOtherKind bytes => exact ⟨_, rfl, s.moves_ifDue _ fun hh _ => s.moves_airBytes _ hh⟩
  | transponderRead bytes => exact ⟨_, rfl, s.moves_ifDue _ fun hh _ => s.moves_readerBytes _ hh⟩
  | externalStopEdge b => exact ⟨_, rfl, s.moves_externalEdge b⟩
  | listenTimerExpiry =>
    exact ⟨_, rfl, s.moves_ifDue _ fun hh _ => s.moves_event _ hh (Work.stages_listenExpired _)⟩
  | authorityPeriodExpiry =>
    refine ⟨_, rfl, s.moves_ifDue _ fun hh _ => s.moves_event _ hh ?_⟩
    exact (State.Edit.link (.armPeriod _)).edits.stages.trans (Work.Stage.stages (.owe rfl id id))
  | supervisionExpiry =>
    exact ⟨_, rfl, s.moves_ifDue _ fun hh _ => s.moves_event _ hh (Work.stages_supervisionExpired _)⟩
  | yieldWindowExpiry i =>
    exact ⟨_, rfl, s.moves_ifDue _ fun hh _ => s.moves_event _ hh (.on (State.edits_yieldExpired _ i))⟩
  | entryHoldExpiry i =>
    exact ⟨_, rfl, s.moves_ifDue _ fun hh _ => s.moves_event _ hh
      ((Work.Stages.on (State.edits_holdExpired _ i)).trans (Work.stages_owe _))⟩
  | backoffExpiry =>
    exact ⟨_, rfl, s.moves_ifDue _ fun hh _ => s.moves_event _ hh (.on (State.edits_backoffExpired _))⟩
  | tableOverflowHoldExpiry =>
    exact ⟨_, rfl, s.moves_ifDue _ fun hh _ => s.moves_event _ hh (.on (State.edits_holdRunOut _))⟩
  | peerStale k =>
    refine ⟨_, rfl, s.moves_ifDue _ fun hh _ => ?_⟩
    split
    · exact s.moves_event _ hh (Work.stages_ageSlot _ k)
    · exact (State.Move.makeStale k).moves
  | peerExpire k =>
    exact ⟨_, rfl, s.moves_ifDue _ fun hh _ => s.moves_event _ hh (Work.stages_dropPeer _ k)⟩
  | resetPinAsserted =>
    exact ⟨_, rfl, (State.Move.hold true s.supplyLost rfl).moves⟩
  | powerLoss => exact ⟨_, rfl, (State.Move.hold s.resetPin true (Bool.or_true _)).moves⟩

end Sys2Proof.Machine

/-!
PROOF. The induction over a step, once: what every move keeps and the queue and the clock leave alone,
every step keeps. Then the invariants of the Mode Controller, the Configuration Loader and the Peer Table.
-/

namespace Sys2Proof.Machine

/-! ### The induction over a step -/

/-- The state with another queue, counter and time base, the items that an empty queue moves on. -/
def State.withQueue (s : State) (q : List Instr) (n t : Nat) : State :=
  { s with pending := q, freeCount := n, now := t }

theorem State.idle_eq (s : State) : ∃ q n t, s.idle = s.withQueue q n t := by
  unfold State.idle
  split
  · exact ⟨s.pending, s.freeCount, s.now + 1, rfl⟩
  · exact ⟨_, s.freeCount, s.now, rfl⟩
  · exact ⟨_, s.freeCount + 1, s.now, rfl⟩

theorem step_moves {s t : State} (h : step s = .next t) : ∃ q n c, (s.withQueue q n c).Moves t := by
  unfold step at h
  split at h
  · obtain ⟨q, n, c, hi⟩ := s.idle_eq
    injection h with h
    exact ⟨q, n, c, by rw [← hi, h]; exact .refl⟩
  next c rest _ =>
    obtain ⟨t', ht', hm⟩ := exec_moves c { s with pending := rest }
    rw [ht'] at h
    injection h with h
    exact ⟨rest, s.freeCount, s.now, h ▸ hm⟩

theorem step_keeps {P : State → Prop} (queue : ∀ s q n c, P s → P (State.withQueue s q n c))
    (move : ∀ s t, State.Move s t → P s → P t) {s t : State} (h : step s = .next t) (hs : P s) : P t := by
  obtain ⟨q, n, c, hm⟩ := step_moves h
  exact hm.keeps move (queue s q n c hs)

/-! ### The end of an event -/

theorem Work.stages_dropAtRest (v : Nat) (w : Work) : w.Stages (w.dropAtRest v) := by
  unfold Work.dropAtRest
  exact .ite (fun h => (State.Edit.claims (.dropHeld h.1)).edits.stages) fun _ => .refl

/-- What is left of an event outside the Drive Link Unit is what its stages leave. -/
theorem Work.finish_eq (w : Work) (before : State) (v : Nat) :
    ∃ w' l, w.Stages w' ∧ ((w.settle before).dropAtRest v).close = w'.s.setLink l := by
  obtain ⟨l, h⟩ := ((w.settle before).dropAtRest v).close_link
  exact ⟨_, l, (w.stages_settle before).trans (Work.stages_dropAtRest v _), h⟩

/-- A property that no change of the Drive Link Unit touches, and that every stage keeps while the part is
not held in reset, is kept by an event whole. -/
theorem State.Move.event_keeps {P : State → Prop} (link : ∀ s l, P s → P (State.setLink s l))
    (stage : ∀ w w' : Work, w.s.held = false → w.Stage w' → P w.s → P w'.s) {s : State}
    (hh : s.held = false) {w : Work} (h : (Work.begin s).Stages w) (before : State) (v : Nat)
    (hs : P s) : P ((w.settle before).dropAtRest v).close := by
  obtain ⟨w', l, hw, he⟩ := w.finish_eq before v
  have kept := (h.trans hw).keeps (P := fun x => P x.s ∧ x.s.held = false)
    (fun a b hab ⟨ha, hha⟩ => ⟨stage a b hha hab ha, (State.held_of_outside hab.outside).trans hha⟩) ⟨hs, hh⟩
  rw [he]
  exact link _ _ kept.1

theorem State.Move.answer_keeps {P : State → Prop} (link : ∀ s l, P s → P (State.setLink s l))
    (stage : ∀ w w' : Work, w.s.held = false → w.Stage w' → P w.s → P w'.s) {s : State}
    (hh : s.held = false) {w : Work} (h : (Work.begin s).Stages w) (before : State) (type : Byte)
    (code : ResultCode) (result : List Byte) (hs : P s) :
    P ((w.settle before).close.respond type code result) := by
  have done := State.Move.event_keeps link stage hh h before 1 hs
  rw [Work.dropAtRest_moving] at done
  exact link _ _ done

/-- Settles O3: every command is a chain of moves, none of which reaches the queue, the counter or the
time base. -/
theorem everyCommandAnswersNext : Obligations.EveryCommandAnswersNext := by
  intro c s
  obtain ⟨t, ht, hm⟩ := exec_moves c s
  refine ⟨t, ht, ?_⟩
  refine hm.keeps (P := fun x => x.pending = s.pending ∧ x.freeCount = s.freeCount ∧ x.now = s.now)
    (fun a b hab ⟨h1, h2, h3⟩ => ?_) ⟨rfl, rfl, rfl⟩
  have kept : b.pending = a.pending ∧ b.freeCount = a.freeCount ∧ b.now = a.now := by
    cases hab with
    | event before v hh h =>
      obtain ⟨w', l, hw, he⟩ := Work.finish_eq _ before v
      obtain ⟨-, -, -, -, h3, h1, h2⟩ := State.outside_eq_iff.mp (h.trans hw).outside
      rw [he]
      exact ⟨h1, h2, h3⟩
    | answer before type code result hh hr h =>
      obtain ⟨l, he⟩ := Work.close_link (Work.settle before _)
      obtain ⟨-, -, -, -, h3, h1, h2⟩ :=
        State.outside_eq_iff.mp (h.trans (Work.stages_settle before _)).outside
      rw [he]
      exact ⟨h1, h2, h3⟩
    | transmit => obtain ⟨l, he⟩ := a.transmit_link; rw [he]; exact ⟨rfl, rfl, rfl⟩
    | issuePending =>
      obtain ⟨-, -, -, -, h3, h1, h2⟩ := State.outside_eq_iff.mp a.issuePending_outside
      exact ⟨h1, h2, h3⟩
    | makeStale k => rw [a.makeStale_eq]; exact ⟨rfl, rfl, rfl⟩
    | _ => exact ⟨rfl, rfl, rfl⟩
  exact ⟨kept.1.trans h1, kept.2.1.trans h2, kept.2.2.trans h3⟩

/-! ### The Mode Controller through stages -/

@[simp] theorem State.claimAhead_ctl (s : State) : s.claimAhead.ctl = s.ctl := by
  rw [s.claimAhead_eq, State.setClaims_ctl]

/-- The Mode Controller of an edit is that of before, or one of its own edits. -/
theorem State.Edit.ctl_cases {s t : State} (h : s.Edit t) : t.ctl = s.ctl ∨ s.ctl.Edit t.ctl := by
  cases h with
  | ctl h => exact .inr h
  | layout h => left; rw [h.eq]; rfl
  | _ => exact .inl rfl

theorem Work.enterStopped_ctl (w : Work) :
    w.enterStopped.s.ctl = { w.s.ctl with mode := .stopped, line := .asserted } := by
  obtain ⟨l, h, -⟩ := w.enterStopped_spec
  rw [h]
  rfl

theorem Work.enterServing_ctl (w : Work) :
    w.enterServing.s.ctl = { w.s.ctl with mode := .serving, line := .released } :=
  State.claimAhead_ctl _

theorem State.listening_ctl (s : State) : s.listening.ctl =
    { s.ctl with mode := .listen, line := .asserted, listenFrom := some s.now, external := s.extPin } :=
  rfl

theorem State.configured_eq (s : State) (c : ConfigLoader) (rate : Option LinkRate) :
    s.configured c rate = (s.setConfig (s.configured c rate).config).setLink (s.configured c rate).link := by
  cases rate with
  | none => rfl
  | some r =>
    show State.orderRate _ r = _
    rw [State.orderRate_eq]
    rfl

/-- The Mode Controller once a load has entered LISTEN. -/
theorem State.configured_listening_ctl (s : State) (c : ConfigLoader) (rate : Option LinkRate) :
    (s.configured c rate).listening.ctl = { s.ctl with
      mode := .listen, line := .asserted, listenFrom := some s.now, external := s.extPin } := by
  rw [State.listening_ctl, s.configured_eq]
  rfl

/-! ### The stop line (R139, R170) -/

theorem ModeController.Edit.mode_line {m m' : ModeController} (h : m.Edit m') :
    m'.mode = m.mode ∧ m'.line = m.line := by
  cases h with
  | mark c => cases c <;> exact ⟨rfl, rfl⟩
  | satisfy c => cases c <;> exact ⟨rfl, rfl⟩
  | _ => exact ⟨rfl, rfl⟩

/-- The line is released exactly in SERVING: what the stop-line invariant says of a part not held. -/
def ModeController.lineOk (m : ModeController) : Prop := m.line = .released ↔ m.mode = .serving

theorem State.Edit.mode {s t : State} (h : s.Edit t) : t.ctl.mode = s.ctl.mode ∧ t.ctl.line = s.ctl.line := by
  obtain h | h := h.ctl_cases
  · rw [h]; exact ⟨rfl, rfl⟩
  · exact h.mode_line

theorem Work.Stage.lineOk {w w' : Work} (h : w.Stage w') (hw : w.s.ctl.lineOk) : w'.s.ctl.lineOk := by
  cases h with
  | edit h =>
    show State.ctl _ |>.lineOk
    unfold ModeController.lineOk
    rw [h.mode.1, h.mode.2]
    exact hw
  | owe hs => rw [hs]; exact hw
  | stop => rw [Work.enterStopped_ctl]; exact ⟨nofun, nofun⟩
  | stopFor c => rw [Work.enterStopped_ctl]; exact ⟨nofun, nofun⟩
  | serve => rw [Work.enterServing_ctl]; exact ⟨fun _ => rfl, fun _ => rfl⟩
  | park => exact ⟨nofun, nofun⟩
  | relisten => exact ⟨nofun, nofun⟩
  | load hl hc rate =>
    dsimp only
    rw [State.configured_listening_ctl]
    exact ⟨nofun, nofun⟩

/-- The stop-line invariant, by whether the part is held in reset. -/
theorem State.stopLineOk_iff {s : State} :
    s.stopLineOk ↔ (s.held = false → s.ctl.lineOk) ∧ (s.held = true → s.ctl.line = .asserted) := by
  unfold State.stopLineOk ModeController.lineOk
  cases s.held <;> cases s.ctl.line <;> simp

theorem State.Move.stopLineOk {s t : State} (h : s.Move t) (hs : s.stopLineOk) : t.stopLineOk := by
  have link : ∀ s l, State.stopLineOk s → (State.setLink s l).stopLineOk := fun _ _ h => h
  have stage : ∀ w w' : Work, w.s.held = false → w.Stage w' → w.s.stopLineOk → w'.s.stopLineOk := by
    intro w w' hh hst hw
    refine State.stopLineOk_iff.mpr ⟨fun _ => hst.lineOk ((State.stopLineOk_iff.mp hw).1 hh), fun h => ?_⟩
    rw [State.held_of_outside hst.outside, hh] at h
    cases h
  cases h with
  | stillHeld a b hh ht =>
    have asserted := (State.stopLineOk_iff.mp hs).2 hh
    exact State.stopLineOk_iff.mpr ⟨fun h => absurd (ht.symm.trans h) nofun, fun _ => asserted⟩
  | hold a b h =>
    exact State.stopLineOk_iff.mpr ⟨fun h' => absurd (h.symm.trans h') nofun, fun _ => rfl⟩
  | reset => exact ⟨nofun, nofun⟩
  | transmit => obtain ⟨l, he⟩ := s.transmit_link; rw [he]; exact hs
  | issuePending =>
    unfold State.issuePending
    split
    · obtain ⟨l, he⟩ := (s.setLink { s.link with pendingIssue := false }).issueAuthority_link
      rw [he]; exact hs
    · exact hs
  | makeStale k => rw [s.makeStale_eq]; exact hs
  | event before v hh h => exact State.Move.event_keeps link stage hh h before v hs
  | answer before type code result hh hr h =>
    exact State.Move.answer_keeps link stage hh h before type code result hs
  | _ => exact hs

/-- Settles O6: only a change of mode sets the line, and it sets it by the new mode. -/
theorem stopLineFollowsMode : Obligations.StopLineFollowsMode :=
  fun _ _ hs h => step_keeps (fun _ _ _ _ h => h) (fun _ _ hm => hm.stopLineOk) h hs

/-! ### The stop causes (R143, R145) -/

/-- The stop-cause invariant, as a property of the Mode Controller. -/
def ModeController.causesOk (m : ModeController) : Prop :=
  (m.mode = .serving ∨ m.mode = .parked → m.causes.isEmpty = true)
    ∧ (m.first = none ↔ m.causes.isEmpty = true)
    ∧ (m.markPositionLost = true → m.causes.positionLost = true)
    ∧ (m.markOffRoute = true → m.causes.offRoute = true)
    ∧ (m.markAirFault = true → m.causes.airFault = true)

theorem CauseSet.isEmpty_iff {k : CauseSet} : k.isEmpty = true ↔ ∀ c, k.has c = false := by
  simp only [CauseSet.isEmpty, List.all_eq_true, Bool.not_eq_true']
  exact ⟨fun h c => h c (by cases c <;> decide), fun h c _ => h c⟩

theorem CauseSet.has_add (k : CauseSet) (c : Cause) : (k.add c).has c = true := by
  cases c <;> rfl

theorem CauseSet.isEmpty_add (k : CauseSet) (c : Cause) : (k.add c).isEmpty = false :=
  Bool.eq_false_iff.mpr fun h => absurd ((k.has_add c).symm.trans (CauseSet.isEmpty_iff.mp h c)) nofun

theorem CauseSet.add_mono (k : CauseSet) (c : Cause) :
    (k.positionLost = true → (k.add c).positionLost = true)
      ∧ (k.offRoute = true → (k.add c).offRoute = true)
      ∧ (k.airFault = true → (k.add c).airFault = true) := by
  cases c <;> simp [CauseSet.add]

/-- The part of the stop-cause invariant that does not read the mode. -/
def ModeController.causesFit (m : ModeController) : Prop :=
  (m.first = none ↔ m.causes.isEmpty = true)
    ∧ (m.markPositionLost = true → m.causes.positionLost = true)
    ∧ (m.markOffRoute = true → m.causes.offRoute = true)
    ∧ (m.markAirFault = true → m.causes.airFault = true)

theorem ModeController.clearMark_fit {m : ModeController} (c : Cause) (h : m.causesFit) :
    (m.clearMark c).causesFit ∧ (m.clearMark c).causes = m.causes ∧ (m.clearMark c).mode = m.mode := by
  obtain ⟨h1, h2, h3, h4⟩ := h
  refine ⟨?_, by cases c <;> rfl, by cases c <;> rfl⟩
  cases c with
  | positionLost => exact ⟨h1, nofun, h3, h4⟩
  | offRoute => exact ⟨h1, h2, nofun, h4⟩
  | airFault => exact ⟨h1, h2, h3, nofun⟩
  | _ => exact ⟨h1, h2, h3, h4⟩

theorem ModeController.add_fit {m : ModeController} (c : Cause) (h : m.causesFit) :
    ({ m with
      causes := m.causes.add c
      first := if m.causes.isEmpty then some c else m.first } : ModeController).causesFit := by
  obtain ⟨h1, h2, h3, h4⟩ := h
  obtain ⟨a2, a3, a4⟩ := m.causes.add_mono c
  refine ⟨?_, a2 ∘ h2, a3 ∘ h3, a4 ∘ h4⟩
  dsimp only
  rw [CauseSet.isEmpty_add]
  refine ⟨fun h => ?_, nofun⟩
  split at h
  · cases h
  next he => exact absurd (h1.mp h) he

theorem ModeController.satisfy_fit {m : ModeController} (c : Cause) (h : m.causesFit) :
    (m.satisfy c).causesFit := by
  obtain ⟨h1, h2, h3, h4⟩ := h
  have marked {a b : Bool} (h : a = true → b = true) : (a || b) = true → b = true := by
    cases a <;> simp_all
  cases c with
  | positionLost => exact ⟨h1, marked h2, h3, h4⟩
  | offRoute => exact ⟨h1, h2, marked h3, h4⟩
  | airFault => exact ⟨h1, h2, h3, marked h4⟩
  | _ => exact ⟨h1, h2, h3, h4⟩

/-- Recording a cause keeps the marks and the first cause in agreement with the set (R143). -/
theorem State.recordCause_fit {s : State} (c : Cause) (h : s.ctl.causesFit) :
    (s.recordCause c).ctl.causesFit := by
  have hm := (s.ctl.clearMark_fit c h).1
  unfold State.recordCause
  dsimp only
  split
  · exact hm
  · obtain ⟨l, he⟩ := State.queueNotice_link _ (.stopped c none)
    rw [he]
    exact ModeController.add_fit c hm

theorem ModeController.Edit.causesOk {m m' : ModeController} (h : m.Edit m') (hm : m.causesOk) :
    m'.causesOk := by
  obtain ⟨h0, hfit⟩ := hm
  cases h with
  | mark c =>
    obtain ⟨h, hc, hmode⟩ := m.clearMark_fit c hfit
    exact ⟨by rw [hc, hmode]; exact h0, h⟩
  | cause c hs hp =>
    exact ⟨fun h => absurd h (not_or.mpr ⟨hs, hp⟩), m.add_fit c hfit⟩
  | satisfy c =>
    refine ⟨?_, m.satisfy_fit c hfit⟩
    cases c <;> exact h0
  | clear => exact ⟨fun _ => rfl, ⟨fun _ => rfl, fun _ => rfl⟩, nofun, nofun, nofun⟩
  | listened => exact ⟨h0, hfit⟩
  | fault => exact ⟨h0, hfit⟩

theorem Work.Stage.causesOk {w w' : Work} (h : w.Stage w') (hw : w.s.ctl.causesOk) :
    w'.s.ctl.causesOk := by
  obtain ⟨h0, hfit⟩ := hw
  cases h with
  | edit h =>
    obtain h | h := h.ctl_cases
    · show ModeController.causesOk _; rw [h]; exact ⟨h0, hfit⟩
    · exact h.causesOk ⟨h0, hfit⟩
  | owe hs => rw [hs]; exact ⟨h0, hfit⟩
  | stop => rw [Work.enterStopped_ctl]; exact ⟨nofun, hfit⟩
  | stopFor c => rw [Work.enterStopped_ctl]; exact ⟨nofun, w.s.recordCause_fit c hfit⟩
  | serve hi hc =>
    rw [Work.enterServing_ctl]
    exact ⟨fun _ => hc.elim (fun h => h0 (.inr h)) id, hfit⟩
  | park hm => exact ⟨fun _ => h0 (.inl hm), hfit⟩
  | relisten => exact ⟨nofun, hfit⟩
  | load hl hc rate =>
    dsimp only
    rw [State.configured_listening_ctl]
    exact ⟨nofun, hfit⟩

theorem State.Move.causesOk {s t : State} (h : s.Move t) (hs : s.causesOk) : t.causesOk := by
  have link : ∀ s l, State.causesOk s → (State.setLink s l).causesOk := fun _ _ h => h
  have stage : ∀ w w' : Work, w.s.held = false → w.Stage w' → w.s.causesOk → w'.s.causesOk :=
    fun _ _ _ hst hw => hst.causesOk hw
  cases h with
  | reset => exact ⟨fun _ => rfl, ⟨fun _ => rfl, fun _ => rfl⟩, nofun, nofun, nofun⟩
  | transmit => obtain ⟨l, he⟩ := s.transmit_link; rw [he]; exact hs
  | issuePending =>
    unfold State.issuePending
    split
    · obtain ⟨l, he⟩ := (s.setLink { s.link with pendingIssue := false }).issueAuthority_link
      rw [he]; exact hs
    · exact hs
  | makeStale k => rw [s.makeStale_eq]; exact hs
  | event before v hh h => exact State.Move.event_keeps link stage hh h before v hs
  | answer before type code result hh hr h =>
    exact State.Move.answer_keeps link stage hh h before type code result hs
  | _ => exact hs

/-- Settles O7: a raise fills the set in SERVING and PARKED only where it leaves them at once, and the two
ways back empty the set first. -/
theorem stopCausesKept : Obligations.StopCausesKept :=
  fun _ _ hs h => step_keeps (fun _ _ _ _ h => h) (fun _ _ hm => hm.causesOk) h hs

end Sys2Proof.Machine

/-!
PROOF. The configuration (R2, R43, R173, R174) and the peer table (R64 to R66) through every step.
-/

namespace Sys2Proof.Machine

/-! ### Parameters and class entries -/

theorem clampTo_range {lo hi : Nat} (h : lo ≤ hi) (v : Nat) : lo ≤ clampTo lo hi v ∧ clampTo lo hi v ≤ hi := by
  unfold clampTo
  omega

/-- Every parameter is in its range. -/
def Params.inRange (p : Params) : Prop := ∀ i, i.range.1 ≤ p.get i ∧ p.get i ≤ i.range.2

theorem Params.inRange_iff {p : Params} :
    p.inRange ↔ ∀ i ∈ ParamId.all, i.range.1 ≤ p.get i ∧ p.get i ≤ i.range.2 :=
  ⟨fun h i _ => h i, fun h i => h i (by cases i <;> decide)⟩

theorem Params.get_put (p : Params) (v : Nat) (i j : ParamId) :
    (p.put v i).get j = if i = j then v else p.get j := by
  cases i <;> cases j <;> rfl

theorem ParamId.clamp_range (i : ParamId) (v : Nat) : i.range.1 ≤ i.clamp v ∧ i.clamp v ≤ i.range.2 :=
  clampTo_range (by cases i <;> decide) v

theorem Params.put_inRange {p : Params} (h : p.inRange) (i : ParamId) (v : Nat) :
    (p.put (i.clamp v) i).inRange := by
  intro j
  rw [Params.get_put]
  split
  next hij => exact hij ▸ i.clamp_range v
  next => exact h j

/-- The raises of R174 keep every range and establish the floors. -/
theorem raiseFloors_ok {p : Params} (h : p.inRange) : (raiseFloors p).1.ok := by
  have hb : 100 ≤ p.beaconPeriod ∧ p.beaconPeriod ≤ 500 := h .beaconPeriod
  have hj : 0 ≤ p.beaconJitter ∧ p.beaconJitter ≤ 100 := h .beaconJitter
  have hy : 400 ≤ p.yieldWindow ∧ p.yieldWindow ≤ 3000 := h .yieldWindow
  have hs : 500 ≤ p.peerStale ∧ p.peerStale ≤ 5000 := h .peerStale
  have hl : 500 ≤ p.listenMs ∧ p.listenMs ≤ 10000 := h .listenMs
  refine ⟨fun i _ => ?_, Nat.le_max_right _ _, Nat.le_max_right _ _, Nat.le_max_right _ _⟩
  cases i with
  | yieldWindow =>
    show 400 ≤ max p.yieldWindow (2 * p.beaconPeriod + p.beaconJitter + 50)
      ∧ max p.yieldWindow (2 * p.beaconPeriod + p.beaconJitter + 50) ≤ 3000
    omega
  | peerStale =>
    show 500 ≤ max p.peerStale (3 * p.beaconPeriod + p.beaconJitter + 50)
      ∧ max p.peerStale (3 * p.beaconPeriod + p.beaconJitter + 50) ≤ 5000
    omega
  | listenMs =>
    show 500 ≤ max p.listenMs (max p.peerStale (3 * p.beaconPeriod + p.beaconJitter + 50))
      ∧ max p.listenMs (max p.peerStale (3 * p.beaconPeriod + p.beaconJitter + 50)) ≤ 10000
    omega
  | vehicleLength => exact h .vehicleLength
  | decel => exact h .decel
  | reactionMs => exact h .reactionMs
  | margin => exact h .margin
  | maxSpeed => exact h .maxSpeed
  | beaconPeriod => exact h .beaconPeriod
  | beaconJitter => exact h .beaconJitter
  | peerExpire => exact h .peerExpire
  | authPeriod => exact h .authPeriod
  | superviseMs => exact h .superviseMs
  | fixGapMax => exact h .fixGapMax
  | fixTol => exact h .fixTol
  | startUnc => exact h .startUnc
  | airFailLimit => exact h .airFailLimit
  | linkRate => exact h .linkRate

/-- A class-table entry in range (R2). -/
def ClassEntry.inRange (e : ClassEntry) : Prop := 50 ≤ e.speedCap ∧ e.speedCap ≤ 1000 ∧ e.entryHold ≤ 2000

theorem classEntry_inRange (cap : Half) (flags : Byte) (hold : Half) : (classEntry cap flags hold).1.inRange := by
  obtain ⟨h1, h2⟩ := clampTo_range (lo := 50) (hi := 1000) (by decide) cap.toNat
  exact ⟨h1, h2, (clampTo_range (lo := 0) (by decide) hold.toNat).2⟩

/-! ### Records -/

theorem recordClasses_length (n : Nat) (bytes : List Byte) (h : 5 * n ≤ bytes.length) :
    (recordClasses n bytes).length = n := by
  induction n generalizing bytes with
  | zero => rfl
  | succ n ih =>
    match bytes, h with
    | c1 :: c0 :: f :: h1 :: h0 :: rest, h =>
      rw [recordClasses, List.length_cons, ih rest (by simp only [List.length_cons] at h; omega)]
    | [], h => simp at h
    | [_], h => simp only [List.length_cons, List.length_nil] at h; omega
    | [_, _], h => simp only [List.length_cons, List.length_nil] at h; omega
    | [_, _, _], h => simp only [List.length_cons, List.length_nil] at h; omega
    | [_, _, _, _], h => simp only [List.length_cons, List.length_nil] at h; omega

theorem recordClasses_inRange (n : Nat) (bytes : List Byte) : ∀ e ∈ recordClasses n bytes, e.1.inRange := by
  induction n generalizing bytes with
  | zero => unfold recordClasses; nofun
  | succ n ih =>
    unfold recordClasses
    split
    next heq =>
      injection heq with heq
      subst heq
      intro e he
      obtain rfl | he := List.mem_cons.mp he
      · exact classEntry_inRange _ _ _
      · exact ih _ e he
    · nofun

/-- A record that is taken carries all 16 classes, each in range. -/
theorem readRecord_classes {m : List Byte} {pairs : List (ParamId × Nat)}
    {classes : List (ClassEntry × Bool)} (h : readRecord m = .record pairs classes) :
    classes.length = 16 ∧ ∀ e ∈ classes, e.1.inRange := by
  unfold readRecord at h
  split at h
  · cases h
  · split at h
    · cases h
    · split at h
      · cases h
      · split at h
        next l1 l0 p body =>
          split at h
          · cases h
          · split at h
            · cases h
            next hbody =>
              dsimp only at h
              split at h
              · cases h
              · split at h
                · cases h
                · obtain ⟨-, rfl⟩ := LoadResult.record.inj h
                  refine ⟨recordClasses_length 16 _ ?_, recordClasses_inRange 16 _⟩
                  rw [List.length_drop]
                  omega
        · cases h
  · cases h

theorem applyPairs_inRange {p : Params} (h : p.inRange) (pairs : List (ParamId × Nat)) :
    (applyPairs p pairs).1.inRange := by
  unfold applyPairs
  generalize false = b
  induction pairs generalizing p b with
  | nil => exact h
  | cons iv rest ih => exact ih (Params.put_inRange h iv.1 iv.2) _

/-! ### The configuration -/

theorem ConfigLoader.ok_iff {c : ConfigLoader} : c.ok ↔
    c.params.ok ∧ c.classes.length = 16 ∧ (∀ e ∈ c.classes, e.inRange) ∧ c.horizon = c.params.horizon :=
  Iff.rfl

theorem ConfigLoader.ok.inRange {c : ConfigLoader} (h : c.ok) : c.params.inRange :=
  Params.inRange_iff.mpr h.1.1

theorem ConfigLoader.standDefaults_ok {c : ConfigLoader} (h : c.ok) : c.standDefaults.ok :=
  ⟨raiseFloors_ok h.inRange, h.2.1, h.2.2.1, rfl⟩

theorem ConfigLoader.apply_ok {c : ConfigLoader} (h : c.ok) {m : List Byte} {pairs : List (ParamId × Nat)}
    {classes : List (ClassEntry × Bool)} (hr : readRecord m = .record pairs classes) :
    (c.apply pairs classes).ok := by
  obtain ⟨hlen, hrange⟩ := readRecord_classes hr
  refine ConfigLoader.ok_iff.mpr
    ⟨raiseFloors_ok (applyPairs_inRange h.inRange pairs), (List.length_map _).trans hlen, ?_, rfl⟩
  intro e he
  obtain ⟨x, hx, rfl⟩ := List.mem_map.mp he
  exact hrange x hx

theorem ConfigLoader.Loaded.ok {c c' : ConfigLoader} (h : c.Loaded c') (hc : c.ok) : c'.ok := by
  cases h with
  | defaults => exact ConfigLoader.standDefaults_ok hc
  | record memory pairs classes h => exact ConfigLoader.apply_ok hc h

theorem ConfigLoader.Edit.ok {c c' : ConfigLoader} (h : c.Edit c') (hc : c.ok) : c'.ok := by
  obtain ⟨hp, hlen, hrange, hh⟩ := ConfigLoader.ok_iff.mp hc
  cases h with
  | store i v => exact ⟨raiseFloors_ok (Params.put_inRange hc.inRange i v), hlen, hrange, rfl⟩
  | setClass k cap flags hold =>
    refine ConfigLoader.ok_iff.mpr ⟨hp, (List.length_set ..).trans hlen, fun e he => ?_, hh⟩
    obtain he | rfl := List.mem_or_eq_of_mem_set he
    · exact hrange e he
    · exact classEntry_inRange cap flags hold

/-- The parameters and the class table that a change of the link rate leaves. -/
theorem State.orderRate_params (s : State) (r : LinkRate) : (s.orderRate r).config =
    { s.config with
      linkRate := (s.orderRate r).config.linkRate, pendingRate := (s.orderRate r).config.pendingRate } := by
  obtain ⟨-, h⟩ | ⟨-, -, h⟩ | ⟨-, -, h⟩ := s.orderRate_cases r <;> rw [h] <;> rfl

/-- Only the two link rates differ between the loader's items of a load and those it puts in place. -/
theorem State.configured_config (s : State) (c : ConfigLoader) (rate : Option LinkRate) :
    (s.configured c rate).config = { c with
      ready := true, loading := false, linkRate := (s.configured c rate).config.linkRate
      pendingRate := (s.configured c rate).config.pendingRate } := by
  cases rate with
  | none => rfl
  | some r => exact State.orderRate_params (s.setConfig { c with ready := true, loading := false }) r

theorem Params.defaults_ok (straps : Straps) : (Params.defaults straps).ok := by
  have hv : 900 ≤ vlenDefault straps.vlen ∧ vlenDefault straps.vlen ≤ 1350 := by
    have := straps.vlen.isLt
    unfold vlenDefault
    omega
  have hl : straps.lrate.toNat ≤ 3 := by have := straps.lrate.isLt; omega
  refine ⟨fun i _ => ?_, (by decide : 490 ≤ 600), (by decide : 690 ≤ 1000), (by decide : 1000 ≤ 2000)⟩
  cases i with
  | vehicleLength =>
    show 800 ≤ vlenDefault straps.vlen ∧ vlenDefault straps.vlen ≤ 1600
    omega
  | linkRate => exact ⟨Nat.zero_le _, hl⟩
  | _ => simp [ParamId.range, Params.get, Params.defaults]

theorem State.resetBlocks_config_ok (s : State) (straps : Straps) : (s.resetBlocks straps).config.ok :=
  ⟨Params.defaults_ok straps, rfl, (by decide : ∀ e ∈ ClassEntry.defaults, _), rfl⟩

/-- The Configuration Loader of an edit is that of before, one of its own edits, or that of a load over. -/
theorem State.Edit.config_cases {s t : State} (h : s.Edit t) :
    t.config = s.config ∨ (s.ctl.mode ≠ .serving ∧ s.config.Edit t.config)
      ∨ t.config = { s.config with loading := false } := by
  cases h with
  | config hm h => exact .inr (.inl ⟨hm, h⟩)
  | loadOver => exact .inr (.inr rfl)
  | layout h => left; rw [h.eq]; rfl
  | _ => exact .inl rfl

theorem Work.enterStopped_config (w : Work) : w.enterStopped.s.config = w.s.config := by
  obtain ⟨l, h, -⟩ := w.enterStopped_spec
  rw [h]
  rfl

@[simp] theorem State.claimAhead_config (s : State) : s.claimAhead.config = s.config := by
  rw [s.claimAhead_eq, State.setClaims_config]

theorem State.recordCause_config (s : State) (c : Cause) : (s.recordCause c).config = s.config := by
  rw [s.recordCause_eq]
  rfl

/-- The Configuration Loader of a stage: that of an edit, or that of a load. -/
theorem Work.Stage.config_cases {w w' : Work} (h : w.Stage w') :
    w'.s.config = w.s.config ∨ (w.s.ctl.mode ≠ .serving ∧ w.s.config.Edit w'.s.config)
      ∨ w'.s.config = { w.s.config with loading := false }
      ∨ (w.s.config.loading = true ∧ w'.s.ctl.mode = .listen ∧ w'.recompute = true
        ∧ ∃ c r p, w.s.config.Loaded c
          ∧ w'.s.config = { c with ready := true, loading := false, linkRate := r, pendingRate := p }) := by
  cases h with
  | edit h => exact h.config_cases.imp_right fun h => h.imp_right .inl
  | owe hs => exact .inl (by rw [hs])
  | stop => exact .inl w.enterStopped_config
  | stopFor c => exact .inl ((Work.enterStopped_config _).trans (w.s.recordCause_config c))
  | serve => exact .inl (State.claimAhead_config _)
  | park => exact .inl rfl
  | relisten => exact .inl rfl
  | load hl hc rate => exact .inr (.inr (.inr ⟨hl, rfl, rfl, _, _, _, hc, w.s.configured_config _ rate⟩))

theorem Work.Stage.config_ok {w w' : Work} (h : w.Stage w') (hw : w.s.config.ok) : w'.s.config.ok := by
  obtain h | ⟨-, h⟩ | h | ⟨-, -, -, c, r, p, hc, h⟩ := h.config_cases
  · exact h ▸ hw
  · exact h.ok hw
  · rw [h]; exact hw
  · rw [h]; exact hc.ok hw

theorem State.issuePending_eq (s : State) : ∃ l, s.issuePending = s.setLink l := by
  unfold State.issuePending
  split
  · obtain ⟨l, h⟩ := (s.setLink { s.link with pendingIssue := false }).issueAuthority_link
    exact ⟨l, by rw [h]; rfl⟩
  · exact ⟨s.link, rfl⟩

theorem State.Move.config_ok {s t : State} (h : s.Move t) (hs : s.config.ok) : t.config.ok := by
  have link : ∀ s l, State.config s |>.ok → (State.setLink s l).config.ok := fun _ _ h => h
  have stage : ∀ w w' : Work, w.s.held = false → w.Stage w' → w.s.config.ok → w'.s.config.ok :=
    fun _ _ _ hst hw => hst.config_ok hw
  cases h with
  | reset => exact State.resetBlocks_config_ok _ _
  | transmit => obtain ⟨l, he⟩ := s.transmit_link; rw [he]; exact hs
  | issuePending => obtain ⟨l, he⟩ := s.issuePending_eq; rw [he]; exact hs
  | makeStale k => rw [s.makeStale_eq]; exact hs
  | event before v hh h =>
    exact State.Move.event_keeps (P := fun x => x.config.ok) link stage hh h before v hs
  | answer before type code result hh hr h =>
    exact State.Move.answer_keeps (P := fun x => x.config.ok) link stage hh h before type code result hs
  | _ => exact hs

/-- Settles O10: every value is stored clamped, and the raises follow every store. -/
theorem configurationKept : Obligations.ConfigurationKept :=
  fun _ _ hs h => step_keeps (P := fun x => x.config.ok) (fun _ _ _ _ h => h) (fun _ _ hm => hm.config_ok) h hs

/-! ### Peer entries -/

theorem optionalField_range {h : Half} {q : Nat} (hq : optionalField 0 h = some q) : 1 ≤ q ∧ q ≤ 65535 := by
  have := h.isLt
  unfold optionalField at hq
  split at hq
  · cases hq
  · injection hq with hq
    omega

theorem rawClaims_crane (n : Nat) (bytes : List Byte) :
    ∀ c ∈ rawClaims n bytes, c.crane.all (fun q => decide (1 ≤ q ∧ q ≤ 65535)) = true := by
  induction n generalizing bytes with
  | zero => unfold rawClaims; nofun
  | succ n ih =>
    unfold rawClaims
    split
    next heq =>
      injection heq with heq
      subst heq
      intro c hc
      obtain rfl | hc := List.mem_cons.mp hc
      · rw [Option.all_eq_true]
        exact fun q hq => decide_eq_true (optionalField_range hq)
      · exact ih _ c hc
    · nofun

/-- What a payload that is read holds, of the fields that R65 and R66 bound. -/
theorem readBeacon_range {body : List Byte} {b : Beacon} (h : readBeacon body = some b) :
    b.posOffset ≤ 65535
      ∧ ∀ c ∈ b.claims, c.crane.all (fun q => decide (1 ≤ q ∧ q ≤ 65535)) = true := by
  unfold readBeacon at h
  repeat' split at h
  all_goals try cases h
  exact ⟨Nat.le_of_lt_succ (BitVec.isLt _), rawClaims_crane _ _⟩

/-- The claim set read from claims with good states: the same cells and crane sequences in order. -/
theorem peerClaims_some {cs : List RawClaim} {ps : List PeerClaim} (h : peerClaims cs = some ps) :
    ps.map (·.cell) = cs.map (·.cell) ∧ ps.map (·.crane) = cs.map (·.crane) := by
  induction cs generalizing ps with
  | nil =>
    obtain rfl := Option.some.inj h
    exact ⟨rfl, rfl⟩
  | cons c cs ih =>
    unfold peerClaims at h
    split at h
    next hp =>
      obtain rfl := Option.some.inj h
      obtain ⟨h1, h2⟩ := ih hp
      simp only [List.map_cons, h1, h2, and_self]
    · cases h

theorem noRepeat_iff {cs : List CellId} : noRepeat cs = true ↔ cs.Nodup := by
  induction cs with
  | nil => simp [noRepeat]
  | cons c cs ih => simp [noRepeat, ih]

theorem Mode.ofBeacon_ne_init {b : Byte} {m : Mode} (h : Mode.ofBeacon b = some m) : m ≠ .init := by
  unfold Mode.ofBeacon at h
  split at h <;> cases h <;> decide

/-- A beacon that is read and passes the checks of R69 makes a good entry. -/
theorem checkBeacon_ok {body : List Byte} {b : Beacon} {now : Nat} {e : PeerEntry}
    (hb : readBeacon body = some b) (h : checkBeacon b now = some e) : e.ok := by
  obtain ⟨hoff, hcrane⟩ := readBeacon_range hb
  unfold checkBeacon at h
  split at h
  · cases h
  next hid =>
    split at h
    · cases h
    next hlen =>
      split at h
      next hm hcs =>
        split at h
        · cases h
        next hurg =>
          split at h
          · cases h
          next hcells =>
            obtain rfl := Option.some.inj h
            obtain ⟨hcell, hcr⟩ := peerClaims_some hcs
            have hclen := congrArg List.length hcell
            rw [List.length_map, List.length_map] at hclen
            simp only [Bool.or_eq_true, Bool.not_eq_true', not_or, Bool.not_eq_false,
              Bool.not_eq_true, noRepeat_iff] at hcells
            have hlen' : b.claims.length ≤ 12 := Nat.le_of_not_lt hlen
            refine ⟨by dsimp only; omega, by dsimp only; omega, Mode.ofBeacon_ne_init hm, by dsimp only; omega,
              by dsimp only; omega, hoff, Nat.min_le_left _ _, by dsimp only; omega, by rw [hcell]; exact hcells.2, ?_, ?_⟩
            · intro p hp
              have : p.cell ∈ b.claims.map (·.cell) := hcell ▸ List.mem_map_of_mem hp
              obtain ⟨c, hc, heq⟩ := List.mem_map.mp this
              have := List.any_eq_false.mp hcells.1 c hc
              rw [← heq]
              simpa using this
            · intro p hp
              have : p.crane ∈ b.claims.map (·.crane) := hcr ▸ List.mem_map_of_mem hp
              obtain ⟨c, hc, heq⟩ := List.mem_map.mp this
              rw [← heq]
              exact hcrane c hc
      · cases h

/-! ### The peer table -/

/-- The entries of the table hold different stations where any two filled slots do. -/
theorem PeerTable.nodup_iff {t : PeerTable} : (t.entries.map (·.id)).Nodup ↔
    ∀ (i j : Nat) (a b : PeerEntry), t.slots[i]? = some (some a) → t.slots[j]? = some (some b) →
      i < j → a.id ≠ b.id := by
  rw [PeerTable.entries, List.Nodup, List.pairwise_map, List.pairwise_filterMap, List.pairwise_iff_getElem]
  constructor
  · intro h i j a b ha hb hij
    obtain ⟨hi, ha⟩ := List.getElem?_eq_some_iff.mp ha
    obtain ⟨hj, hb⟩ := List.getElem?_eq_some_iff.mp hb
    exact h i j hi hj hij a ha b hb
  · intro h i j hi hj hij a ha b hb
    exact h i j a b (List.getElem?_eq_some_iff.mpr ⟨hi, ha⟩) (List.getElem?_eq_some_iff.mpr ⟨hj, hb⟩) hij

/-- The peer-table invariant, as a property of the table and the own station id. -/
def PeerTable.good (t : PeerTable) (own : StationId) : Prop :=
  t.slots.length = 24
    ∧ (∀ (k : Nat) e, t.slots[k]? = some (some e) → e.ok ∧ e.id ≠ own)
    ∧ ∀ (i j : Nat) (a b : PeerEntry), t.slots[i]? = some (some a) → t.slots[j]? = some (some b) →
      i < j → a.id ≠ b.id

theorem State.peersOk_iff {s : State} : s.peersOk ↔ s.peers.good s.config.straps.stationId := by
  unfold State.peersOk PeerTable.good
  rw [PeerTable.nodup_iff]
  refine and_congr_right' (and_congr_left' ⟨fun h k e he => ?_, fun h e he => ?_⟩)
  · exact h e (PeerTable.mem_entries.mpr ⟨k, he⟩)
  · obtain ⟨k, hk⟩ := PeerTable.mem_entries.mp he
    exact h k e hk

/-- What a slot holds after another content is placed in slot `k`. -/
theorem getElem?_set_some {slots : List (Option PeerEntry)} {k j : Nat} {o : Option PeerEntry}
    {e : PeerEntry} (h : (slots.set k o)[j]? = some (some e)) :
    (j = k ∧ o = some e) ∨ (j ≠ k ∧ slots[j]? = some (some e)) := by
  by_cases hjk : k = j
  · subst hjk
    rw [List.getElem?_set_self'] at h
    cases hs : slots[k]? with
    | none => rw [hs] at h; cases h
    | some x => rw [hs] at h; exact .inl ⟨rfl, Option.some.inj h⟩
  · rw [List.getElem?_set_ne hjk] at h
    exact .inr ⟨Ne.symm hjk, h⟩

/-- A slot keeps the table good when what it takes is a good entry of a station that no other slot holds. -/
theorem PeerTable.good.set {t : PeerTable} {own : StationId} (h : t.good own) (k : Nat)
    (o : Option PeerEntry) (ho : ∀ e, o = some e → e.ok ∧ e.id ≠ own
      ∧ ∀ (j : Nat) a, t.slots[j]? = some (some a) → a.id = e.id → j = k) :
    ({ t with slots := t.slots.set k o } : PeerTable).good own := by
  obtain ⟨hlen, hok, hnd⟩ := h
  refine ⟨(List.length_set ..).trans hlen, fun j e he => ?_, fun i j a b ha hb hij => ?_⟩
  · obtain ⟨-, he⟩ | ⟨-, he⟩ := getElem?_set_some he
    · exact ⟨(ho e he).1, (ho e he).2.1⟩
    · exact hok j e he
  · obtain ⟨hik, ha⟩ | ⟨hik, ha⟩ := getElem?_set_some ha <;>
      obtain ⟨hjk, hb⟩ | ⟨hjk, hb⟩ := getElem?_set_some hb
    · omega
    · exact fun hid => hjk ((ho a ha).2.2 j b hb hid.symm)
    · exact fun hid => hik ((ho b hb).2.2 i a ha hid)
    · exact hnd i j a b ha hb hij

/-- A station's slot is the one slot that holds it. -/
theorem PeerTable.slotOf_some {t : PeerTable} {k : Nat} {id : StationId} (h : t.slotOf id = some k) :
    ∃ e, t.slots[k]? = some (some e) ∧ e.id = id := by
  rw [PeerTable.slotOf, List.findIdx?_eq_some_iff_getElem] at h
  obtain ⟨hk, hmatch, -⟩ := h
  split at hmatch
  next e he => exact ⟨e, List.getElem?_eq_some_iff.mpr ⟨hk, he⟩, beq_iff_eq.mp hmatch⟩
  · cases hmatch

theorem PeerTable.slotOf_none {t : PeerTable} {id : StationId} (h : t.slotOf id = none) {k : Nat}
    {e : PeerEntry} (he : t.slots[k]? = some (some e)) : e.id ≠ id := by
  rw [PeerTable.slotOf, List.findIdx?_eq_none_iff] at h
  simpa using h _ (List.mem_of_getElem? he)

theorem State.PeerEdit.good {s : State} {t : PeerTable} (h : s.PeerEdit t) {own : StationId}
    (hown : own = s.config.straps.stationId) (hs : s.peers.good own) : t.good own := by
  cases h with
  | store k b body e hb he hid hk =>
    refine hs.set k _ ?_
    rintro _ ⟨⟩
    refine ⟨checkBeacon_ok hb he, hown ▸ hid, fun j a ha haid => ?_⟩
    obtain hk | ⟨hnone, -⟩ := hk
    · obtain ⟨x, hx, hxid⟩ := PeerTable.slotOf_some hk
      refine Classical.byContradiction fun hjk => ?_
      obtain hlt | hlt := Nat.lt_or_gt_of_ne hjk
      · exact hs.2.2 j k a x ha hx hlt (haid.trans hxid.symm)
      · exact hs.2.2 k j x a hx ha hlt (hxid.trans haid.symm)
    · exact absurd haid (PeerTable.slotOf_none hnone ha)
  | remove k => exact hs.set k none nofun
  | makeStale k =>
    unfold State.makeStale
    split
    next e he =>
      have he' : s.peers.slots[k]? = some (some e) := Option.join_eq_some_iff.mp he
      refine hs.set k _ ?_
      rintro _ ⟨⟩
      refine ⟨(hs.2.1 k e he').1, (hs.2.1 k e he').2, fun j a ha haid => ?_⟩
      refine Classical.byContradiction fun hjk => ?_
      obtain hlt | hlt := Nat.lt_or_gt_of_ne hjk
      · exact hs.2.2 j k a e ha he' hlt haid
      · exact hs.2.2 k j e a he' ha hlt haid.symm
    · exact hs
  | hold => exact hs

/-- The Peer Table of an edit is that of before, or one of its own edits. -/
theorem State.Edit.peers_cases {s t : State} (h : s.Edit t) : t.peers = s.peers ∨ s.PeerEdit t.peers := by
  cases h with
  | peers h => exact .inr h
  | layout h => left; rw [h.eq]; rfl
  | _ => exact .inl rfl

theorem ConfigLoader.Edit.straps {c c' : ConfigLoader} (h : c.Edit c') : c'.straps = c.straps := by
  cases h <;> rfl

theorem ConfigLoader.Loaded.straps {c c' : ConfigLoader} (h : c.Loaded c') : c'.straps = c.straps := by
  cases h <;> rfl

theorem Work.Stage.straps {w w' : Work} (h : w.Stage w') : w'.s.config.straps = w.s.config.straps := by
  obtain h | ⟨-, h⟩ | h | ⟨-, -, -, c, r, p, hc, h⟩ := h.config_cases
  · rw [h]
  · exact h.straps
  · rw [h]
  · rw [h]; exact hc.straps

/-- The Peer Table of a stage is that of before, or that of an edit. -/
theorem Work.Stage.peers_cases {w w' : Work} (h : w.Stage w') :
    w'.s.peers = w.s.peers ∨ w.s.PeerEdit w'.s.peers := by
  cases h with
  | edit h => exact h.peers_cases
  | owe hs => exact .inl (by rw [hs])
  | stop => obtain ⟨l, h, -⟩ := w.enterStopped_spec; left; rw [h]; rfl
  | stopFor c =>
    obtain ⟨l, h, -⟩ := (w.on (·.recordCause c)).enterStopped_spec
    left
    rw [h]
    show (w.s.recordCause c).peers = _
    rw [w.s.recordCause_eq c]
    rfl
  | serve =>
    left
    show (State.claimAhead _).peers = _
    rw [State.claimAhead_eq]
    rfl
  | park => exact .inl rfl
  | relisten => exact .inl rfl
  | load hl hc rate =>
    left
    show (w.s.configured _ rate).peers = _
    rw [State.configured_eq]
    rfl

theorem Work.Stage.peersOk {w w' : Work} (h : w.Stage w') (hw : w.s.peersOk) : w'.s.peersOk := by
  rw [State.peersOk_iff] at hw ⊢
  rw [h.straps]
  obtain hp | hp := h.peers_cases
  · rw [hp]; exact hw
  · exact hp.good rfl hw

theorem State.resetBlocks_peersOk (s : State) (straps : Straps) : (s.resetBlocks straps).peersOk :=
  ⟨rfl, nofun, List.nodup_nil⟩

theorem State.Move.peersOk {s t : State} (h : s.Move t) (hs : s.peersOk) : t.peersOk := by
  have link : ∀ s l, State.peersOk s → (State.setLink s l).peersOk := fun _ _ h => h
  have stage : ∀ w w' : Work, w.s.held = false → w.Stage w' → w.s.peersOk → w'.s.peersOk :=
    fun _ _ _ hst hw => hst.peersOk hw
  cases h with
  | reset => exact State.resetBlocks_peersOk _ _
  | transmit => obtain ⟨l, he⟩ := s.transmit_link; rw [he]; exact hs
  | issuePending => obtain ⟨l, he⟩ := s.issuePending_eq; rw [he]; exact hs
  | makeStale k =>
    have made := (State.Edit.peers (State.PeerEdit.makeStale (s := s) k))
    rw [s.makeStale_eq]
    exact (Work.Stage.edit (w := Work.begin s) made).peersOk hs
  | event before v hh h => exact State.Move.event_keeps link stage hh h before v hs
  | answer before type code result hh hr h =>
    exact State.Move.answer_keeps link stage hh h before type code result hs
  | _ => exact hs

/-- Settles O11: an entry is stored in its station's own slot, or in an empty one when the station has
none, and only after the checks of R69. -/
theorem peerTableKept : Obligations.PeerTableKept :=
  fun _ _ hs h => step_keeps (fun _ _ _ _ h => h) (fun _ _ hm => hm.peersOk) h hs

end Sys2Proof.Machine

/-!
PROOF. Counts in range, the jitter generator and the air port (R20, R39, R40, R123, R125, R129, R162)
through every step.
-/

namespace Sys2Proof.Machine

/-! ### What every stage keeps, an event keeps up to its close -/

theorem Work.Stages.keeps_state {P : State → Prop}
    (stage : ∀ w w' : Work, w.s.held = false → w.Stage w' → P w.s → P w'.s) {w w' : Work}
    (hh : w.s.held = false) (h : w.Stages w') (hs : P w.s) : P w'.s ∧ w'.s.held = false :=
  h.keeps (P := fun x => P x.s ∧ x.s.held = false)
    (fun a b hab ⟨ha, hha⟩ => ⟨stage a b hha hab ha, (State.held_of_outside hab.outside).trans hha⟩) ⟨hs, hh⟩

/-- An event whole, and an answered request, from stages and close. -/
theorem State.Move.closed_keeps {P : State → Prop}
    (stage : ∀ w w' : Work, w.s.held = false → w.Stage w' → P w.s → P w'.s)
    (close : ∀ w : Work, P w.s → P w.close) {s : State} (hh : s.held = false) {w : Work}
    (h : (Work.begin s).Stages w) (before : State) (v : Nat) (hs : P s) :
    P ((w.settle before).dropAtRest v).close :=
  close _ (Work.Stages.keeps_state stage hh
    ((h.trans (w.stages_settle before)).trans (Work.stages_dropAtRest v _)) hs).1

theorem State.Move.closed_keeps' {P : State → Prop}
    (stage : ∀ w w' : Work, w.s.held = false → w.Stage w' → P w.s → P w'.s)
    (close : ∀ w : Work, P w.s → P w.close) {s : State} (hh : s.held = false) {w : Work}
    (h : (Work.begin s).Stages w) (before : State) (hs : P s) : P (w.settle before).close :=
  close _ (Work.Stages.keeps_state stage hh (h.trans (w.stages_settle before)) hs).1

/-! ### The counters (R162) -/

/-- Every counter is in its range. -/
def Counters.bounded (k : Counters) : Prop := ∀ n ∈ k.toList, n ≤ 65535

theorem countUp_le (n : Nat) : countUp n ≤ 65535 := Nat.min_le_left _ _

theorem Counters.bump_bounded {k : Counters} (h : k.bounded) (c : Counter) : (k.bump c).bounded := by
  unfold Counters.bounded Counters.toList at *
  simp only [List.forall_mem_cons] at h ⊢
  cases c <;> simp only [Counters.bump, h, countUp_le, and_true, List.not_mem_nil, false_imp_iff,
    implies_true]

theorem Counters.zero_bounded : Counters.zero.bounded := by
  unfold Counters.bounded
  decide

theorem DriveLink.Edit.counters {l l' : DriveLink} (h : l.Edit l') :
    l'.counters = l.counters ∨ (∃ c, l'.counters = l.counters.bump c) ∨ l'.counters = .zero := by
  cases h with
  | count c => exact .inr (.inl ⟨c, rfl⟩)
  | clearCounters => exact .inr (.inr rfl)
  | _ => exact .inl rfl

theorem DriveLink.withdraw_counters (l : DriveLink) : l.withdraw.counters = l.counters := by
  obtain ⟨m, -, h⟩ | ⟨-, h⟩ := l.withdraw_cases
  · rw [h]
  · rw [h]

theorem State.issueAuthority_counters (s : State) : s.issueAuthority.link.counters = s.link.counters := by
  unfold State.issueAuthority
  dsimp only
  split
  · split
    · exact s.link.withdraw_counters
    · exact s.link.withdraw_counters
  · exact s.link.withdraw_counters

theorem Work.close_counters (w : Work) : w.close.link.counters = w.s.link.counters := by
  unfold Work.close
  split
  · exact w.s.issueAuthority_counters
  · rfl

theorem State.transmit_counters (s : State) : s.transmit.link.counters = s.link.counters := by
  obtain h | ⟨x, xs, -, -, -, -, h⟩ := s.transmit_cases
  · rw [h]
  · rw [h]; rfl

theorem State.issuePending_counters (s : State) : s.issuePending.link.counters = s.link.counters := by
  unfold State.issuePending
  split
  · exact State.issueAuthority_counters _
  · rfl

/-! ### The claims (R39, R40) -/

/-- Urgency, deferral and the announce counts are in their ranges. -/
def ClaimEngine.bounded (k : ClaimEngine) : Prop :=
  k.urgency ≤ 3 ∧ k.deferral ≤ 7 ∧ ∀ c ∈ k.list, c.announce ≤ 2

theorem State.claimAhead_bounded {s : State} (h : s.claims.bounded) : s.claimAhead.claims.bounded := by
  obtain ⟨new, heq, hnew, -⟩ := s.claimAhead_spec
  rw [heq]
  refine ⟨h.1, h.2.1, fun c hc => ?_⟩
  obtain hc | hc := List.mem_append.mp hc
  · exact h.2.2 c hc
  · rw [(hnew c hc).2.1]; exact Nat.zero_le 2

/-- A sweep leaves each claim as it is or promotes it; the deferral count stands or is 0. -/
theorem State.sweep_bounded {s : State} {cs : List Claim} (h : ∀ c ∈ cs, c.announce ≤ 2) {d : Nat}
    (hd : d ≤ 7) (prev : Option Claim) :
    (∀ c ∈ (s.sweep prev d cs).1, c.announce ≤ 2) ∧ (s.sweep prev d cs).2.1 ≤ 7 := by
  obtain ⟨hlen, hpos, hfalse, htrue⟩ := s.sweep_spec cs prev d
  constructor
  · intro c hc
    obtain ⟨k, hk⟩ := List.mem_iff_getElem?.mp hc
    have hlt : k < cs.length := hlen ▸ (List.getElem?_eq_some_iff.mp hk).1
    have hold := h _ (List.getElem_mem hlt)
    obtain rfl | ⟨-, rfl⟩ := hpos k _ c (List.getElem?_eq_getElem hlt) hk
    · exact hold
    · exact hold
  · cases hr : (s.sweep prev d cs).2.2 with
    | false => rw [hfalse hr]; exact hd
    | true => rw [htrue hr]; exact Nat.zero_le 7

theorem State.enterUpTo_bounded {s : State} (front : Nat) (es : List RouteEntry) (i at_ : Nat)
    (h : s.claims.bounded) : (enterUpTo front es i at_ s).1.claims.bounded := by
  induction es generalizing i at_ s with
  | nil => exact h
  | cons e es ih =>
    unfold enterUpTo
    split
    · refine ih _ _ ?_
      obtain ⟨h1, h2, h3⟩ := h
      unfold State.enterEntry
      split
      · refine ⟨h1, h2, fun c hc => ?_⟩
        obtain ⟨x, hx, rfl⟩ := List.mem_map.mp hc
        have hann : (x.entered s.now).announce = x.announce := by unfold Claim.entered; split <;> rfl
        split
        · rw [hann]; exact h3 x hx
        · exact h3 x hx
      · split
        · refine ⟨h1, h2, fun c hc => ?_⟩
          obtain hc | hc := List.mem_append.mp hc
          · exact h3 c hc
          · rw [List.mem_singleton.mp hc]; exact Nat.zero_le 2
        · exact ⟨h1, h2, h3⟩
    · exact h

theorem State.ClaimEdit.bounded {s : State} {k : ClaimEngine} (h : s.ClaimEdit k) (hs : s.claims.bounded) :
    k.bounded := by
  obtain ⟨h1, h2, h3⟩ := hs
  cases h with
  | claimAhead => exact State.claimAhead_bounded ⟨h1, h2, h3⟩
  | promoteAll =>
    obtain ⟨hl, hd⟩ := State.sweep_bounded (s := s) h3 h2 none
    exact ⟨h1, hd, hl⟩
  | promoteFrom i =>
    unfold State.promoteFrom
    dsimp only
    split
    · exact ⟨h1, h2, h3⟩
    next hrest =>
      split
      · have hsub : ∀ c ∈ s.claims.list.dropWhile (fun c => c.index != i), c.announce ≤ 2 :=
          fun c hc => h3 c ((List.dropWhile_sublist _).subset hc)
        obtain ⟨hl, hd⟩ := State.sweep_bounded (s := s) hsub h2
          (s.claims.list.takeWhile fun c => c.index != i).getLast?
        refine ⟨h1, hd, fun c hc => ?_⟩
        obtain hc | hc := List.mem_append.mp hc
        · exact h3 c ((List.takeWhile_sublist _).subset hc)
        · exact hl c hc
      · exact ⟨h1, h2, h3⟩
  | announce ids =>
    refine ⟨h1, h2, fun c hc => ?_⟩
    obtain ⟨x, hx, rfl⟩ := List.mem_map.mp hc
    have hann : (x.announced s.now s.config.params.yieldWindow).announce ≤ 2 := by
      unfold Claim.announced
      split
      · exact Nat.le_succ 1
      · exact Nat.min_le_left _ _
    split
    · exact hann
    · exact h3 x hx
  | enter front hf => exact State.enterUpTo_bounded _ _ _ _ ⟨h1, h2, h3⟩
  | yieldTo id d b hd => exact ⟨h1, hd, fun c hc => h3 c ((List.takeWhile_sublist _).subset hc)⟩
  | stopYieldTimer i =>
    refine ⟨h1, h2, fun c hc => ?_⟩
    obtain ⟨x, hx, rfl⟩ := List.mem_map.mp hc
    split <;> exact h3 x hx
  | stopHoldTimer i =>
    refine ⟨h1, h2, fun c hc => ?_⟩
    obtain ⟨x, hx, rfl⟩ := List.mem_map.mp hc
    split <;> exact h3 x hx
  | stopBackoff => exact ⟨h1, h2, h3⟩
  | urgency n hn => exact ⟨hn, h2, h3⟩
  | dropHeld => exact ⟨h1, h2, fun c hc => h3 c (List.mem_filter.mp hc).1⟩

theorem State.addStartClaims_bounded {s : State} (n i : Nat) (h : s.claims.bounded) :
    (addStartClaims n i s).claims.bounded := by
  induction n generalizing i s with
  | zero => exact h
  | succ n ih =>
    unfold addStartClaims
    split
    · exact h
    · refine ih _ ⟨h.1, h.2.1, fun c hc => ?_⟩
      obtain hc | hc := List.mem_append.mp hc
      · exact h.2.2 c hc
      · rw [List.mem_singleton.mp hc]; exact Nat.le_refl 2

theorem State.startClaims_bounded {s : State} (h : s.claims.bounded) : s.startClaims.claims.bounded := by
  unfold State.startClaims
  split
  · split
    · exact State.addStartClaims_bounded _ _ h
    · exact h
  · exact h

theorem State.LayoutEdit.claims_bounded {s t : State} (h : s.LayoutEdit t) (hs : s.claims.bounded) :
    t.claims.bounded := by
  cases h with
  | release =>
    obtain ⟨k, h⟩ := s.release_spec
    rw [h]
    exact ⟨hs.1, hs.2.1, fun c hc => hs.2.2 c (List.mem_of_mem_drop hc)⟩
  | start => exact State.startClaims_bounded hs
  | append => exact hs
  | truncate => exact ⟨hs.1, hs.2.1, fun c hc => hs.2.2 c (List.mem_filter.mp hc).1⟩
  | clearRoute => exact hs
  | releaseStop => exact hs
  | truncated => exact hs

theorem Work.enterStopped_claims (w : Work) : w.enterStopped.s.claims =
    { w.s.claims with list := w.s.claims.list.filter fun c => c.state != .tentative } := by
  obtain ⟨l, h, -⟩ := w.enterStopped_spec
  rw [h]
  rfl

theorem State.recordCause_claims (s : State) (c : Cause) : (s.recordCause c).claims = s.claims := by
  rw [s.recordCause_eq]
  rfl

theorem State.configured_claims (s : State) (c : ConfigLoader) (rate : Option LinkRate) :
    (s.configured c rate).claims = s.claims := by
  rw [s.configured_eq]
  rfl

theorem State.Edit.claims_bounded {s t : State} (h : s.Edit t) (hs : s.claims.bounded) :
    t.claims.bounded := by
  cases h with
  | claims h => exact h.bounded hs
  | layout h => exact h.claims_bounded hs
  | _ => exact hs

theorem Work.Stage.claims_bounded {w w' : Work} (h : w.Stage w') (hw : w.s.claims.bounded) :
    w'.s.claims.bounded := by
  have filtered (p : Claim → Bool) : ∀ c ∈ w.s.claims.list.filter p, c.announce ≤ 2 :=
    fun c hc => hw.2.2 c (List.mem_filter.mp hc).1
  cases h with
  | edit h => exact h.claims_bounded hw
  | owe hs => rw [hs]; exact hw
  | stop => rw [Work.enterStopped_claims]; exact ⟨hw.1, hw.2.1, filtered _⟩
  | stopFor c =>
    rw [Work.enterStopped_claims]
    have same : (w.on (·.recordCause c)).s.claims = w.s.claims := w.s.recordCause_claims c
    rw [same]
    exact ⟨hw.1, hw.2.1, filtered _⟩
  | serve => exact State.claimAhead_bounded hw
  | park => exact ⟨hw.1, hw.2.1, filtered _⟩
  | relisten => exact hw
  | load hl hc rate =>
    show (w.s.configured _ rate).claims.bounded
    rw [State.configured_claims]
    exact hw

/-! ### The position (R20) -/

/-- Speed, distance since fix and off-route count are in their ranges. -/
def PositionUnit.bounded (p : PositionUnit) : Prop := p.speed ≤ 1200 ∧ p.sinceFix ≤ 65535 ∧ p.offRoute ≤ 2

theorem State.PosEdit.bounded {s : State} {p : PositionUnit} (h : s.PosEdit p) (hs : s.pos.bounded) :
    p.bounded := by
  cases h with
  | speed v hv => exact ⟨hv, hs.2⟩
  | move p d => exact ⟨hs.1, Nat.min_le_left _ _, hs.2.2⟩
  | fix j => exact ⟨hs.1, Nat.zero_le _, Nat.zero_le _⟩
  | offRoute n hn => exact ⟨hs.1, hs.2.1, hn⟩

theorem State.LayoutEdit.pos_bounded {s t : State} (h : s.LayoutEdit t) (hs : s.pos.bounded) :
    t.pos.bounded := by
  cases h with
  | release => obtain ⟨k, r, h⟩ := s.release_eq; rw [h]; exact hs
  | start => rw [State.startClaims_pos]; exact ⟨hs.1, Nat.zero_le _, Nat.zero_le _⟩
  | append => exact hs
  | truncate => exact hs
  | clearRoute => exact hs
  | releaseStop => exact hs
  | truncated => exact hs

theorem State.configured_pos (s : State) (c : ConfigLoader) (rate : Option LinkRate) :
    (s.configured c rate).pos = s.pos := by
  rw [s.configured_eq]
  rfl

theorem Work.Stage.pos_bounded {w w' : Work} (h : w.Stage w') (hw : w.s.pos.bounded) :
    w'.s.pos.bounded := by
  cases h with
  | edit h =>
    cases h with
    | pos h => exact h.bounded hw
    | layout h => exact h.pos_bounded hw
    | _ => exact hw
  | owe hs => rw [hs]; exact hw
  | stop => rw [Work.enterStopped_pos]; exact hw
  | stopFor c =>
    rw [Work.enterStopped_pos]
    show (w.s.recordCause c).pos.bounded
    rw [State.recordCause_pos]
    exact hw
  | serve => rw [Work.enterServing_pos]; exact hw
  | park => exact hw
  | relisten => exact hw
  | load hl hc rate =>
    show (w.s.configured _ rate).pos.bounded
    rw [State.configured_pos]
    exact hw

/-! ### The Beacon Unit (R123) -/

/-- The Beacon Unit of a stage: as before, an edit, or with another parked count or timer. -/
theorem Work.Stage.beacon_cases {w w' : Work} (h : w.Stage w') :
    w'.s.beacon = w.s.beacon ∨ w.s.beacon.Edit w'.s.beacon
      ∨ w'.s.beacon = { w.s.beacon with parkedCount := 0 }
      ∨ ∃ t, w'.s.beacon = { w.s.beacon with timer := t } := by
  cases h with
  | edit h =>
    cases h with
    | beacon h => exact .inr (.inl h)
    | layout h => left; show State.beacon _ = _; rw [h.eq]; rfl
    | _ => exact .inl rfl
  | owe hs => exact .inl (by rw [hs])
  | stop => obtain ⟨l, h, -⟩ := w.enterStopped_spec; left; rw [h]; rfl
  | stopFor c =>
    obtain ⟨l, h, -⟩ := (w.on (·.recordCause c)).enterStopped_spec
    left
    rw [h]
    show (w.s.recordCause c).beacon = _
    rw [w.s.recordCause_eq c]
    rfl
  | serve =>
    left
    show (State.claimAhead _).beacon = _
    rw [State.claimAhead_eq]
    rfl
  | park => exact .inr (.inr (.inl rfl))
  | relisten => exact .inl rfl
  | @load c hl hc rate =>
    have same : (w.s.configured c rate).beacon = w.s.beacon := by rw [State.configured_eq]; rfl
    exact .inr (.inr (.inr ⟨_, by rw [← same]; rfl⟩))

/-- Parked count and failures are in their ranges. -/
def BeaconUnit.bounded (b : BeaconUnit) : Prop := b.parkedCount ≤ 2 ∧ b.failures ≤ 255

/-- The air port shows the TX_FRAME of the last beacon built, and a beacon in flight is that one. -/
def BeaconUnit.airOk (b : BeaconUnit) : Prop :=
  b.handed = b.lastPayload.map (txFrame (b.seq - 1))
    ∧ b.inFlight.all (fun f => f.seq == b.seq - 1 && b.lastPayload.isSome) = true

theorem BeaconUnit.Edit.keeps {b b' : BeaconUnit} (h : b.Edit b') :
    (b.bounded → b'.bounded) ∧ (b.airOk → b'.airOk) ∧ b'.jitter = b.jitter := by
  cases h with
  | failures n hn => exact ⟨fun h => ⟨h.1, hn⟩, id, rfl⟩
  | settled => exact ⟨id, fun h => ⟨h.1, rfl⟩, rfl⟩
  | reset => exact ⟨fun h => ⟨h.1, Nat.zero_le _⟩, fun h => ⟨h.1, rfl⟩, rfl⟩

theorem Work.Stage.beacon_keeps {w w' : Work} (h : w.Stage w') :
    (w.s.beacon.bounded → w'.s.beacon.bounded) ∧ (w.s.beacon.airOk → w'.s.beacon.airOk)
      ∧ w'.s.beacon.jitter = w.s.beacon.jitter := by
  obtain h | h | h | ⟨t, h⟩ := h.beacon_cases
  · rw [h]; exact ⟨id, id, rfl⟩
  · exact h.keeps
  · rw [h]; exact ⟨fun h => ⟨Nat.zero_le _, h.2⟩, id, rfl⟩
  · rw [h]; exact ⟨id, id, rfl⟩

/-- The generator leaves 0 only for 0: its step shifts the register, and a lone 1 in it is fed back. -/
theorem jitterStep_ne_zero {r : Half} (h : r ≠ 0#16) : jitterStep r ≠ 0#16 := by
  intro hz
  unfold jitterStep at hz
  obtain ⟨hshift, hfed⟩ := BitVec.or_eq_zero_iff.mp hz
  have hsmall : r.toNat / 2 = 0 := by
    have := congrArg BitVec.toNat hshift
    rwa [BitVec.toNat_ushiftRight, Nat.shiftRight_eq_div_pow] at this
  have hone : r = 1#16 := by
    have hne : r.toNat ≠ 0 := fun h0 => h (BitVec.eq_of_toNat_eq h0)
    apply BitVec.eq_of_toNat_eq
    rw [show (1#16).toNat = 1 from rfl]
    omega
  subst hone
  exact absurd hfed (by decide)

theorem BeaconUnit.reset_jitter {id : StationId} (h : id ≠ 0#8) : (BeaconUnit.reset id).jitter ≠ 0#16 := by
  intro hz
  have hz := congrArg BitVec.toNat hz
  have hlt := id.isLt
  have hne : id.toNat ≠ 0 := fun h0 => h (BitVec.eq_of_toNat_eq h0)
  rw [show (BeaconUnit.reset id).jitter = BitVec.ofNat 16 (id.toNat * 257) from rfl,
    BitVec.toNat_ofNat, show (0#16).toNat = 0 from rfl] at hz
  omega

/-! ### The counts through every step -/

theorem State.boundsOk_iff {s : State} : s.boundsOk ↔
    s.claims.bounded ∧ s.pos.bounded ∧ s.beacon.bounded ∧ s.link.counters.bounded := by
  unfold State.boundsOk ClaimEngine.bounded PositionUnit.bounded BeaconUnit.bounded Counters.bounded
  simp only [and_assoc]

theorem Work.enterStopped_counters (w : Work) :
    w.enterStopped.s.link.counters = w.s.link.counters := by
  unfold Work.enterStopped
  split <;> rfl

theorem State.queueNotice_counters (s : State) (n : Notice) :
    (s.queueNotice n).link.counters = s.link.counters := by
  obtain ⟨-, h⟩ | ⟨-, h⟩ := s.queueNotice_cases n <;> rw [h] <;> rfl

theorem State.recordCause_counters (s : State) (c : Cause) :
    (s.recordCause c).link.counters = s.link.counters := by
  unfold State.recordCause
  dsimp only
  split
  · rfl
  · exact State.queueNotice_counters _ _

theorem State.configured_counters (s : State) (c : ConfigLoader) (rate : Option LinkRate) :
    (s.configured c rate).link.counters = s.link.counters := by
  cases rate with
  | none => rfl
  | some r =>
    show (State.orderRate _ r).link.counters = _
    obtain ⟨-, h⟩ | ⟨-, -, h⟩ | ⟨-, -, h⟩ := State.orderRate_cases
      (s.setConfig { c with ready := true, loading := false }) r <;> rw [h] <;> rfl

theorem Work.Stage.counters_bounded {w w' : Work} (h : w.Stage w') (hw : w.s.link.counters.bounded) :
    w'.s.link.counters.bounded := by
  cases h with
  | edit h =>
    cases h with
    | @link l h =>
      show l.counters.bounded
      obtain h | ⟨c, h⟩ | h := h.counters
      · rw [h]; exact hw
      · rw [h]; exact Counters.bump_bounded hw c
      · rw [h]; exact Counters.zero_bounded
    | layout h => show Counters.bounded (State.link _).counters; rw [h.eq]; exact hw
    | _ => exact hw
  | owe hs => rw [hs]; exact hw
  | stop => rw [Work.enterStopped_counters]; exact hw
  | stopFor c =>
    rw [Work.enterStopped_counters]
    show (w.s.recordCause c).link.counters.bounded
    rw [State.recordCause_counters]
    exact hw
  | serve =>
    show (State.claimAhead _).link.counters.bounded
    rw [State.claimAhead_eq]
    exact hw
  | park => exact hw
  | relisten => exact hw
  | load hl hc rate =>
    show (w.s.configured _ rate).link.counters.bounded
    rw [State.configured_counters]
    exact hw

theorem Work.Stage.boundsOk {w w' : Work} (h : w.Stage w') (hw : w.s.boundsOk) : w'.s.boundsOk := by
  obtain ⟨h1, h2, h3, h4⟩ := State.boundsOk_iff.mp hw
  exact State.boundsOk_iff.mpr
    ⟨h.claims_bounded h1, h.pos_bounded h2, h.beacon_keeps.1 h3, h.counters_bounded h4⟩

/-- The counts read nothing of the Drive Link Unit but its counters. -/
theorem State.boundsOk_setLink {s : State} {l : DriveLink} (hs : s.boundsOk)
    (hl : l.counters = s.link.counters) : (s.setLink l).boundsOk := by
  obtain ⟨h1, h2, h3, h4⟩ := State.boundsOk_iff.mp hs
  exact State.boundsOk_iff.mpr ⟨h1, h2, h3, by rw [State.setLink_link, hl]; exact h4⟩

theorem Work.close_boundsOk (w : Work) (h : w.s.boundsOk) : w.close.boundsOk := by
  obtain ⟨l, he⟩ := w.close_link
  have hc := w.close_counters
  rw [he] at hc ⊢
  exact State.boundsOk_setLink h hc

theorem State.Move.boundsOk {s t : State} (h : s.Move t) (hs : s.boundsOk) : t.boundsOk := by
  obtain ⟨h1, h2, h3, h4⟩ := State.boundsOk_iff.mp hs
  cases h with
  | reset =>
    exact State.boundsOk_iff.mpr ⟨⟨Nat.zero_le _, Nat.zero_le _, nofun⟩,
      ⟨Nat.zero_le _, Nat.zero_le _, Nat.zero_le _⟩, ⟨Nat.zero_le _, Nat.zero_le _⟩, Counters.zero_bounded⟩
  | transmit =>
    obtain ⟨l, he⟩ := s.transmit_link
    have hc := s.transmit_counters
    rw [he] at hc ⊢
    exact State.boundsOk_setLink hs hc
  | issuePending =>
    obtain ⟨l, he⟩ := s.issuePending_eq
    have hc := s.issuePending_counters
    rw [he] at hc ⊢
    exact State.boundsOk_setLink hs hc
  | count c => exact State.boundsOk_iff.mpr ⟨h1, h2, h3, Counters.bump_bounded h4 c⟩
  | parked n hn => exact State.boundsOk_iff.mpr ⟨h1, h2, ⟨hn, h3.2⟩, h4⟩
  | makeStale k => rw [s.makeStale_eq]; exact hs
  | event before v hh h =>
    exact State.Move.closed_keeps (fun _ _ _ hst => hst.boundsOk) Work.close_boundsOk hh h before v hs
  | answer before type code result hh hr h =>
    exact State.Move.closed_keeps' (fun _ _ _ hst => hst.boundsOk) Work.close_boundsOk hh h before hs
  | _ => exact hs

theorem State.Move.jitterOk {s t : State} (h : s.Move t) (hs : s.jitterOk) : t.jitterOk := by
  have link : ∀ s l, State.jitterOk s → (State.setLink s l).jitterOk := fun _ _ h => h
  have stage : ∀ w w' : Work, w.s.held = false → w.Stage w' → w.s.jitterOk → w'.s.jitterOk := by
    intro w w' _ hst hw
    unfold State.jitterOk
    rw [hst.straps, hst.beacon_keeps.2.2]
    exact hw
  cases h with
  | reset => exact BeaconUnit.reset_jitter
  | transmit => obtain ⟨l, he⟩ := s.transmit_link; rw [he]; exact hs
  | issuePending => obtain ⟨l, he⟩ := s.issuePending_eq; rw [he]; exact hs
  | rearm => exact fun h => jitterStep_ne_zero (hs h)
  | makeStale k => rw [s.makeStale_eq]; exact hs
  | event before v hh h => exact State.Move.event_keeps link stage hh h before v hs
  | answer before type code result hh hr h =>
    exact State.Move.answer_keeps link stage hh h before type code result hs
  | _ => exact hs

theorem State.Move.airOk {s t : State} (h : s.Move t) (hs : s.airOk) : t.airOk := by
  have link : ∀ s l, State.airOk s → (State.setLink s l).airOk := fun _ _ h => h
  have stage : ∀ w w' : Work, w.s.held = false → w.Stage w' → w.s.airOk → w'.s.airOk :=
    fun w w' _ hst hw => hst.beacon_keeps.2.1 hw
  cases h with
  | reset => exact ⟨rfl, rfl⟩
  | transmit => obtain ⟨l, he⟩ := s.transmit_link; rw [he]; exact hs
  | issuePending => obtain ⟨l, he⟩ := s.issuePending_eq; rw [he]; exact hs
  | build =>
    have hseq : s.beacon.seq + 1 - 1 = s.beacon.seq := BitVec.add_sub_cancel _ _
    refine ⟨?_, ?_⟩
    · show some _ = some (txFrame (s.beacon.seq + 1 - 1) _)
      rw [hseq]
    · show (s.beacon.seq == s.beacon.seq + 1 - 1 && true) = true
      rw [hseq, beq_self_eq_true, Bool.and_true]
  | makeStale k => rw [s.makeStale_eq]; exact hs
  | event before v hh h => exact State.Move.event_keeps link stage hh h before v hs
  | answer before type code result hh hr h =>
    exact State.Move.answer_keeps link stage hh h before type code result hs
  | _ => exact hs

/-- Settles O9: each count is stored within its range; only the re-arming steps the generator, and only the
building of a beacon reaches the air port. -/
theorem countsStayInRange : Obligations.CountsStayInRange := fun _ _ h =>
  ⟨step_keeps (fun _ _ _ _ h => h) (fun _ _ hm => hm.boundsOk) h,
    step_keeps (fun _ _ _ _ h => h) (fun _ _ hm => hm.jitterOk) h,
    step_keeps (fun _ _ _ _ h => h) (fun _ _ hm => hm.airOk) h⟩

end Sys2Proof.Machine

/-!
PROOF. The authority record (R103, R107, R113) through every step: an event that changes the mode owes a
recomputation, and a record just computed is good.
-/

namespace Sys2Proof.Machine

/-! ### The ceiling's search (R113) -/

theorem State.ceilingSearch_mod (s : State) (front cap l n : Nat) : s.ceilingSearch front cap l n % 5 = 0 := by
  induction n with
  | zero => rfl
  | succ n ih =>
    unfold State.ceilingSearch
    split
    · exact Nat.mul_mod_right 5 _
    · exact ih

/-- The ceiling found meets the conditions, but for the 0 that stands where no candidate does. -/
theorem State.ceilingSearch_ok (s : State) (front cap l n : Nat) :
    s.ceilingSearch front cap l n = 0
      ∨ s.ceilingOk front cap l (s.ceilingSearch front cap l n) = true := by
  induction n with
  | zero => exact .inl rfl
  | succ n ih =>
    unfold State.ceilingSearch
    split
    next h => exact .inr h
    next => exact ih

theorem Params.stopping_rest (p : Params) : p.stopping 0 = 0 := by
  unfold Params.stopping ceilDiv
  simp only [Nat.mul_zero, Nat.zero_mul, Nat.zero_add]
  obtain h | h := Nat.eq_zero_or_pos (2000 * p.decel)
  · rw [h, Nat.div_zero]
  · exact Nat.div_eq_of_lt (by omega)

theorem State.ceilingSearch_stopping (s : State) (front cap l n : Nat) :
    s.config.params.stopping (s.ceilingSearch front cap l n) ≤ l := by
  obtain h | h := s.ceilingSearch_ok front cap l n
  · rw [h, Params.stopping_rest]
    exact Nat.zero_le l
  · unfold State.ceilingOk at h
    rw [Bool.and_eq_true, Bool.and_eq_true, decide_eq_true_eq, decide_eq_true_eq] at h
    exact h.1.2

/-! ### A record just computed -/

/-- A record without authority is good in every mode. -/
theorem State.authOk_of_zero {s : State} (hl : s.auth.length = 0) (hc : s.auth.ceiling = 0) : s.authOk := by
  unfold State.authOk
  rw [hl, hc, Params.stopping_rest]
  exact ⟨fun _ => ⟨rfl, rfl⟩, rfl, Nat.zero_le _, Nat.le_refl 0⟩

/-- The record that R107 computes is 0, or in SERVING a length with the ceiling searched for it. -/
theorem State.computeAuthority_cases (s : State) :
    (s.computeAuthority.1.length = 0 ∧ s.computeAuthority.1.ceiling = 0)
      ∨ (s.ctl.mode = .serving ∧ ∃ front cap, s.computeAuthority.1.ceiling = s.ceilingSearch front cap
        s.computeAuthority.1.length (s.config.params.maxSpeed / 5)) := by
  unfold State.computeAuthority
  split
  · exact .inl ⟨rfl, rfl⟩
  · split
    · exact .inl ⟨rfl, rfl⟩
    next hm =>
      split
      · exact .inr ⟨Classical.not_not.mp hm, _, _, rfl⟩
      · exact .inl ⟨rfl, rfl⟩

theorem State.computed_authOk (s : State) : (s.setAuth s.computeAuthority.1).authOk := by
  obtain ⟨hl, hc⟩ | ⟨hm, front, cap, hc⟩ := s.computeAuthority_cases
  · exact State.authOk_of_zero hl hc
  · refine ⟨fun h => absurd hm h, ?_, ?_, ?_⟩
    · rw [State.setAuth_auth, hc]; exact s.ceilingSearch_mod _ _ _ _
    · rw [State.setAuth_auth, hc]
      exact Nat.le_trans (s.ceilingSearch_le _ _ _ _) (Nat.mul_div_le _ _)
    · rw [State.setAuth_auth, hc]; exact s.ceilingSearch_stopping _ _ _ _

theorem Work.compute_authOk (w : Work) : w.compute.s.authOk := w.s.computed_authOk

theorem Work.recomputeNow_authOk (w : Work) : w.recomputeNow.s.authOk := by
  have checked (x : Work) :
      (if x.compute.s.overruns then x.compute.raiseOverrun.compute else x.compute).s.authOk := by
    split
    · exact Work.compute_authOk _
    · exact x.compute_authOk
  exact checked (if w.overrunEntry then w.raiseOverrun else w)

/-! ### The load in INIT -/

theorem ConfigLoader.Edit.loading {c c' : ConfigLoader} (h : c.Edit c') : c'.loading = c.loading := by
  cases h <;> rfl

theorem Work.Stage.loadOk {w w' : Work} (h : w.Stage w') (hw : w.s.loadOk) : w'.s.loadOk := by
  have later (hi : w.s.ctl.mode ≠ .init) : w.s.config.loading = true → False := fun hl => hi (hw hl)
  cases h with
  | edit h =>
    show State.loadOk _
    unfold State.loadOk
    rw [h.mode.1]
    obtain hc | ⟨-, hc⟩ | hc := h.config_cases
    · rw [hc]; exact hw
    · rw [hc.loading]; exact hw
    · rw [hc]; nofun
  | owe hs => rw [hs]; exact hw
  | stop hi => exact fun hl => (later hi (w.enterStopped_config ▸ hl)).elim
  | stopFor c hi =>
    refine fun hl => (later hi ?_).elim
    rw [Work.enterStopped_config] at hl
    exact w.s.recordCause_config c ▸ hl
  | serve hi =>
    refine fun hl => (later hi ?_).elim
    have hl : (State.claimAhead _).config.loading = true := hl
    rw [State.claimAhead_config] at hl
    exact hl
  | park hm => exact fun hl => (later (by rw [hm]; decide) hl).elim
  | relisten hm => exact fun hl => (later (by rw [hm]; decide) hl).elim
  | @load c hl hc rate =>
    have ended : (w.s.configured c rate).listening.config.loading = false := by
      show (w.s.configured c rate).config.loading = false
      rw [State.configured_config]
    exact fun hl => absurd (ended.symm.trans hl) nofun

/-! ### The record through the stages of an event -/

/-- The authority record reads the mode, the parameters and itself. -/
theorem State.authOk_congr {s t : State} (hm : t.ctl.mode = s.ctl.mode) (ha : t.auth = s.auth)
    (hp : t.config.params = s.config.params) (hs : s.authOk) : t.authOk := by
  unfold State.authOk
  rw [hm, ha, hp]
  exact hs

/-- An edit keeps the record good: it computes it afresh, sets the overrun flag, or changes the parameters
where nothing is authorised. -/
theorem State.Edit.authOk {s t : State} (h : s.Edit t) (hs : s.authOk) : t.authOk := by
  cases h with
  | auth h =>
    cases h with
    | overrun => exact hs
    | compute => exact s.computed_authOk
  | config hm h =>
    obtain ⟨hl, hc⟩ := hs.1 hm
    exact State.authOk_of_zero hl hc
  | @ctl m h => exact State.authOk_congr h.mode_line.1 rfl rfl hs
  | layout h => rw [h.eq]; exact hs
  | _ => exact hs

/-- Within an event the record is good, or a recomputation is owed. -/
def Work.authSettled (w : Work) : Prop := w.s.loadOk ∧ (w.recompute = false → w.s.authOk)

theorem Work.Stage.authSettled {w w' : Work} (h : w.Stage w') (hw : w.authSettled) : w'.authSettled := by
  refine ⟨h.loadOk hw.1, ?_⟩
  cases h with
  | edit h => exact fun hr => h.authOk (hw.2 hr)
  | owe hs hr =>
    rw [hs]
    exact fun h => hw.2 (Bool.eq_false_iff.mpr fun ht => absurd (h.symm.trans (hr ht)) nofun)
  | stop => exact fun h => absurd (w.enterStopped_spec.choose_spec.2.1.symm.trans h) nofun
  | stopFor c => exact fun h => absurd ((Work.enterStopped_spec _).choose_spec.2.1.symm.trans h) nofun
  | serve => nofun
  | park => nofun
  | relisten => nofun
  | load => nofun

theorem Work.settle_authOk (w : Work) (before : State) (h : w.authSettled) :
    (w.settle before).s.loadOk ∧ (w.settle before).s.authOk := by
  refine ⟨(w.stages_settle before).keeps (P := fun x => x.s.loadOk) (fun _ _ hst hx => hst.loadOk hx) h.1, ?_⟩
  unfold Work.settle
  split
  · exact w.recomputeNow_authOk
  next howes =>
    refine h.2 ?_
    unfold Work.owes at howes
    simp only [Bool.or_eq_true, not_or, Bool.not_eq_true] at howes
    exact howes.1.1.1.1

theorem Work.close_authOk (w : Work) (h : w.s.loadOk ∧ w.s.authOk) : w.close.loadOk ∧ w.close.authOk := by
  obtain ⟨l, he⟩ := w.close_link
  rw [he]
  exact h

theorem Work.dropAtRest_authOk (w : Work) (v : Nat) (h : w.s.loadOk ∧ w.s.authOk) :
    (w.dropAtRest v).s.loadOk ∧ (w.dropAtRest v).s.authOk := by
  unfold Work.dropAtRest
  split <;> exact h

theorem State.Move.authOk {s t : State} (h : s.Move t) (hs : s.loadOk ∧ s.authOk) :
    t.loadOk ∧ t.authOk := by
  have settled {w : Work} (before : State) (hw : (Work.begin s).Stages w) :
      (w.settle before).s.loadOk ∧ (w.settle before).s.authOk :=
    w.settle_authOk before (hw.keeps (fun _ _ hst hx => hst.authSettled hx) ⟨hs.1, fun _ => hs.2⟩)
  cases h with
  | reset => exact ⟨fun _ => rfl, State.authOk_of_zero rfl rfl⟩
  | transmit => obtain ⟨l, he⟩ := s.transmit_link; rw [he]; exact hs
  | issuePending => obtain ⟨l, he⟩ := s.issuePending_eq; rw [he]; exact hs
  | makeStale k => rw [s.makeStale_eq]; exact hs
  | event before v hh h => exact Work.close_authOk _ (Work.dropAtRest_authOk _ v (settled before h))
  | answer before type code result hh hr h => exact Work.close_authOk _ (settled before h)
  | _ => exact hs

/-- Settles O12: outside an event's handling the record is the one last computed, and the parameters change
only where nothing is authorised. -/
theorem authorityRecordKept : Obligations.AuthorityRecordKept := fun _ _ hl hs h =>
  step_keeps (P := fun x => x.loadOk ∧ x.authOk) (fun _ _ _ _ h => h) (fun _ _ hm => hm.authOk) h ⟨hl, hs⟩

end Sys2Proof.Machine

/-!
PROOF. The Drive Link Unit's lists (R154, R159, R164) through every step: their shape is kept within an
event too, and the notices are complete where an event ends.
-/

namespace Sys2Proof.Machine

/-! ### The receiver's rest (R180) -/

/-- A scan with fuel for all its bytes keeps nothing, or a frame from its sync byte on. -/
theorem linkScan_rest (fuel : Nat) (cut : Bool) (bytes : List Byte) (h : bytes.length < fuel) :
    heldFromSync (linkScan fuel cut bytes).2.1 = true
      ∧ ((linkScan fuel cut bytes).2.2 = true → (linkScan fuel cut bytes).2.1 ≠ []) := by
  induction fuel generalizing cut bytes with
  | zero => exact absurd h (Nat.not_lt_zero _)
  | succ fuel ih =>
    cases bytes with
    | nil => exact ⟨rfl, nofun⟩
    | cons b bytes =>
      rw [List.length_cons] at h
      have rest (cut : Bool) (bs : List Byte) (hb : bs.length ≤ bytes.length) := ih cut bs (by omega)
      unfold linkScan
      split
      · exact rest cut bytes (Nat.le_refl _)
      next hsync =>
        split
        · exact ⟨beq_iff_eq.mpr (Classical.not_not.mp hsync), fun _ => List.cons_ne_nil _ _⟩
        · split
          · exact rest false bytes (Nat.le_refl _)
          · exact rest false _ (by rw [List.length_drop]; omega)
        · exact rest false bytes (Nat.le_refl _)

/-! ### The outgoing order -/

theorem noTwoAuthority_cons {x : OutItem} {xs : List OutItem} (h : noTwoAuthority (x :: xs) = true) :
    noTwoAuthority xs = true := by
  cases xs with
  | nil => rfl
  | cons y ys =>
    rw [noTwoAuthority, Bool.and_eq_true] at h
    exact h.2

/-- An item may join the order where it or the last item is no AUTHORITY message. -/
theorem noTwoAuthority_append {xs : List OutItem} (y : OutItem) (h : noTwoAuthority xs = true)
    (hy : y.isAuthority = false ∨ ∀ x, xs.getLast? = some x → x.isAuthority = false) :
    noTwoAuthority (xs ++ [y]) = true := by
  induction xs with
  | nil => rfl
  | cons x xs ih =>
    cases xs with
    | nil =>
      simp only [List.singleton_append, noTwoAuthority, Bool.and_true, Bool.not_eq_true']
      obtain hy | hy := hy
      · rw [hy, Bool.and_false]
      · rw [hy x rfl, Bool.false_and]
    | cons x' xs =>
      rw [noTwoAuthority, Bool.and_eq_true] at h
      have tail := ih h.2 (hy.imp_right fun hy z hz => hy z (by rw [List.getLast?_cons_cons]; exact hz))
      simp only [List.cons_append, noTwoAuthority, h.1, Bool.true_and]
      exact tail

theorem noTwoAuthority_dropLast {xs : List OutItem} (h : noTwoAuthority xs = true) :
    noTwoAuthority xs.dropLast = true := by
  induction xs with
  | nil => rfl
  | cons x xs ih =>
    cases xs with
    | nil => rfl
    | cons y ys =>
      rw [noTwoAuthority, Bool.and_eq_true] at h
      have tail := ih h.2
      cases ys with
      | nil => rfl
      | cons z zs =>
        simp only [List.dropLast_cons_cons, noTwoAuthority, h.1, Bool.true_and] at tail ⊢
        exact tail

/-- The item before an AUTHORITY message that stands last is none. -/
theorem noTwoAuthority_before_last {xs : List OutItem} (h : noTwoAuthority xs = true) {y : OutItem}
    (hy : xs.getLast? = some y) (ha : y.isAuthority = true) :
    ∀ x, xs.dropLast.getLast? = some x → x.isAuthority = false := by
  induction xs with
  | nil => nofun
  | cons x xs ih =>
    cases xs with
    | nil => nofun
    | cons x' xs =>
      rw [List.getLast?_cons_cons] at hy
      rw [noTwoAuthority, Bool.and_eq_true] at h
      cases xs with
      | nil =>
        have hy : x' = y := Option.some.inj hy
        intro z hz
        have hz : x = z := Option.some.inj hz
        have hn := h.1
        rwa [hy, ha, Bool.and_true, Bool.not_eq_true', hz] at hn
      | cons x'' xs =>
        intro z hz
        rw [List.dropLast_cons_cons, List.dropLast_cons_cons, List.getLast?_cons_cons] at hz
        exact ih h.2 hy z (by rw [List.dropLast_cons_cons]; exact hz)

theorem noTwoAuthority_map {f : OutItem → OutItem} (hf : ∀ x, (f x).isAuthority = x.isAuthority)
    (xs : List OutItem) : noTwoAuthority (xs.map f) = noTwoAuthority xs := by
  induction xs with
  | nil => rfl
  | cons x xs ih =>
    cases xs with
    | nil => rfl
    | cons y ys =>
      simp only [List.map_cons, noTwoAuthority, hf] at ih ⊢
      rw [ih]

theorem OutItem.complete_kind (m : Mode) (x : OutItem) :
    (x.complete m).isAuthority = x.isAuthority ∧ (x.complete m).isNotice = x.isNotice
      ∧ (x.complete m).isResponse = x.isResponse ∧ (x.complete m).isComplete = true := by
  unfold OutItem.complete
  split
  · exact ⟨rfl, rfl, rfl, rfl⟩
  next h =>
    refine ⟨rfl, rfl, rfl, ?_⟩
    unfold OutItem.isComplete
    split
    next c => exact absurd rfl (h c)
    next => rfl

theorem length_filter_map_of_eq {α : Type} {p : α → Bool} {f : α → α} (h : ∀ x, p (f x) = p x)
    (xs : List α) : ((xs.map f).filter p).length = (xs.filter p).length := by
  rw [List.filter_map, List.length_map]
  exact congrArg (fun q => (xs.filter q).length) (funext h)

/-! ### The shape of the Drive Link Unit's lists -/

/-- How many responses are built and not yet sent. -/
def DriveLink.unsent (l : DriveLink) : Nat := (l.order.filter OutItem.isResponse).length

/-- The shape of the lists within an event, with at most `n` responses unsent. -/
def DriveLink.shaped (n : Nat) (l : DriveLink) : Prop :=
  l.intake.length ≤ 4 ∧ l.notices.length ≤ 8 ∧ l.unsent ≤ n ∧ noTwoAuthority l.outgoing = true
    ∧ l.outstanding.length ≤ 2 ∧ heldFromSync l.rx = true ∧ (l.rxCut = true → l.rx ≠ [])

/-- Nothing is supervised and no issue is held back. -/
def DriveLink.quiet (l : DriveLink) : Prop := l.outstanding = [] ∧ l.pendingIssue = false

/-- The Drive Link Unit within an event: its shape, and nothing supervised outside SERVING. -/
def State.linkShaped (n : Nat) (s : State) : Prop :=
  s.link.shaped n ∧ (s.ctl.mode ≠ .serving → s.link.quiet)

theorem State.linkOk_iff {s : State} : s.linkOk ↔ s.linkShaped 1 ∧ s.noticesComplete := by
  unfold State.linkOk State.linkShaped DriveLink.shaped DriveLink.quiet DriveLink.unsent State.noticesComplete
  constructor
  · rintro ⟨hin, hn, hr, ha, hall, ho, hq, hrx, hcut⟩
    exact ⟨⟨⟨hin, hn, hr, ha, ho, hrx, hcut⟩, hq⟩, hall⟩
  · rintro ⟨⟨⟨hin, hn, hr, ha, ho, hrx, hcut⟩, hq⟩, hall⟩
    exact ⟨hin, hn, hr, ha, hall, ho, hq, hrx, hcut⟩

theorem DriveLink.unsent_append (l : DriveLink) (x : OutItem) :
    ({ l with outgoing := l.outgoing ++ [x] } : DriveLink).unsent
      = l.unsent + (if x.isResponse then 1 else 0) := by
  unfold DriveLink.unsent DriveLink.order
  rw [← List.append_assoc, List.filter_append, List.length_append]
  split
  next h => rw [List.filter_cons_of_pos h]; rfl
  next h => rw [List.filter_cons_of_neg h]; rfl

theorem DriveLink.notices_append (l : DriveLink) (x : OutItem) :
    (l.outgoing ++ [x]).filter OutItem.isNotice = l.notices ++ [x].filter OutItem.isNotice :=
  List.filter_append ..

theorem DriveLink.unsent_eq_zero {l : DriveLink} (h : l.responseWaiting = false) : l.unsent = 0 := by
  unfold DriveLink.responseWaiting at h
  rw [Bool.or_eq_false_iff] at h
  unfold DriveLink.unsent DriveLink.order
  rw [List.filter_append, List.length_append]
  have hout : (l.outgoing.filter OutItem.isResponse).length = 0 := by
    rw [List.length_eq_zero_iff, List.filter_eq_nil_iff]
    exact fun x hx => Bool.not_eq_true _ ▸ List.any_eq_false.mp h.1 x hx
  rw [hout]
  cases ht : l.transmitting with
  | none => rfl
  | some x =>
    have hx : x.isResponse = false := by simpa [ht] using h.2
    simp [hx]

theorem DriveLink.Edit.shaped {l l' : DriveLink} (h : l.Edit l') {n : Nat} (hl : l.shaped n) :
    l'.shaped n := by
  obtain ⟨h1, h2, h3, h4, h5, h6, h7⟩ := hl
  cases h with
  | notice x hx =>
    refine ⟨h1, ?_, ?_, noTwoAuthority_append _ h4 (.inl rfl), h5, h6, h7⟩
    · show ((l.outgoing ++ [_]).filter OutItem.isNotice).length ≤ 8
      rw [DriveLink.notices_append, List.length_append]
      exact hx
    · rw [l.unsent_append (.notice x)]
      exact h3
  | forget => exact ⟨h1, h2, h3, h4, Nat.zero_le _, h6, h7⟩
  | _ => exact ⟨h1, h2, h3, h4, h5, h6, h7⟩

theorem DriveLink.Edit.quiet {l l' : DriveLink} (h : l.Edit l') (hl : l.quiet) : l'.quiet := by
  cases h with
  | forget => exact ⟨rfl, rfl⟩
  | _ => exact hl

/-! ### Stages -/

/-- A cause that is recorded changes the Drive Link Unit by its notice alone. -/
theorem State.recordCause_shaped {s : State} {n : Nat} (c : Cause) (h : s.linkShaped n) :
    (s.recordCause c).linkShaped n := by
  have hmode := s.recordCause_mode c
  suffices hl : (s.recordCause c).link = s.link ∨ s.link.Edit (s.recordCause c).link by
    unfold State.linkShaped
    rw [hmode]
    obtain hl | hl := hl
    · rw [hl]; exact h
    · exact ⟨hl.shaped h.1, fun hm => hl.quiet (h.2 hm)⟩
  unfold State.recordCause
  dsimp only
  split
  · exact .inl rfl
  · obtain ⟨hlt, he⟩ | ⟨-, he⟩ := State.queueNotice_cases _ (.stopped c none)
    · right; rw [he]; exact .notice _ hlt
    · right; rw [he]; exact .latch .noticeOverflow

theorem State.claimAhead_link (s : State) : s.claimAhead.link = s.link := by
  rw [s.claimAhead_eq, State.setClaims_link]

/-- Leaving SERVING empties the outstanding list; elsewhere it is empty (R144, R166). -/
theorem Work.enterStopped_shaped {w : Work} {n : Nat} (h : w.s.linkShaped n) :
    w.enterStopped.s.linkShaped n := by
  obtain ⟨⟨h1, h2, h3, h4, h5, h6, h7⟩, hq⟩ := h
  unfold Work.enterStopped
  by_cases hm : w.s.ctl.mode = .serving
  · rw [if_pos hm]
    exact ⟨⟨h1, h2, h3, h4, Nat.zero_le _, h6, h7⟩, fun _ => ⟨rfl, rfl⟩⟩
  · rw [if_neg hm]
    exact ⟨⟨h1, h2, h3, h4, h5, h6, h7⟩, fun _ => hq hm⟩

/-- A change of rate cuts only a frame that the receiver holds (R175). -/
theorem State.changeRate_shaped {l : DriveLink} {n : Nat} (b : Bool) (h : l.shaped n) :
    ({ l with rxCut := l.rxCut || (b && !l.rx.isEmpty) } : DriveLink).shaped n := by
  obtain ⟨h1, h2, h3, h4, h5, h6, h7⟩ := h
  refine ⟨h1, h2, h3, h4, h5, h6, fun hc => ?_⟩
  obtain hc | hc := Bool.or_eq_true_iff.mp hc
  · exact h7 hc
  · have := (Bool.and_eq_true_iff.mp hc).2
    intro hnil
    have hnil : l.rx = [] := hnil
    rw [hnil] at this
    cases this

theorem State.configured_shaped {s : State} {n : Nat} (c : ConfigLoader) (rate : Option LinkRate)
    (h : s.link.shaped n ∧ s.link.quiet) :
    (s.configured c rate).link.shaped n ∧ (s.configured c rate).link.quiet := by
  cases rate with
  | none => exact h
  | some r =>
    show (State.orderRate _ r).link.shaped n ∧ (State.orderRate _ r).link.quiet
    obtain ⟨-, he⟩ | ⟨-, -, he⟩ | ⟨-, -, he⟩ := State.orderRate_cases
      (s.setConfig { c with ready := true, loading := false }) r <;> rw [he]
    · exact h
    · exact ⟨State.changeRate_shaped _ h.1, h.2⟩
    · exact h

theorem Work.Stage.linkShaped {w w' : Work} {n : Nat} (h : w.Stage w')
    (hw : w.s.loadOk ∧ w.s.linkShaped n) : w'.s.loadOk ∧ w'.s.linkShaped n := by
  refine ⟨h.loadOk hw.1, ?_⟩
  obtain ⟨hload, hw⟩ := hw
  cases h with
  | edit h =>
    have hm := h.mode.1
    cases h with
    | link h => exact ⟨h.shaped hw.1, fun hm => h.quiet (hw.2 hm)⟩
    | layout h =>
      rw [h.eq]
      exact hw
    | ctl h => exact ⟨hw.1, fun h' => hw.2 (h.mode_line.1 ▸ h')⟩
    | _ => exact hw
  | owe hs => rw [hs]; exact hw
  | stop => exact Work.enterStopped_shaped hw
  | stopFor c => exact Work.enterStopped_shaped (w := w.on (·.recordCause c)) (State.recordCause_shaped c hw)
  | serve =>
    refine ⟨?_, fun hm => absurd (by rw [Work.enterServing_ctl]) hm⟩
    show (State.claimAhead _).link.shaped n
    rw [State.claimAhead_link]
    exact hw.1
  | park =>
    obtain ⟨h1, h2, h3, h4, h5, h6, h7⟩ := hw.1
    exact ⟨⟨h1, h2, h3, h4, Nat.zero_le _, h6, h7⟩, fun _ => ⟨rfl, rfl⟩⟩
  | relisten hm => exact ⟨hw.1, fun _ => hw.2 (by rw [hm]; decide)⟩
  | @load c hl hc rate =>
    have hq := hw.2 (by rw [hload hl]; decide)
    obtain ⟨hs, hq⟩ := State.configured_shaped c rate ⟨hw.1, hq⟩
    exact ⟨hs, fun _ => hq⟩

/-! ### The end of an event -/

theorem DriveLink.withdraw_shaped {l : DriveLink} {n : Nat} (h : l.shaped n) :
    l.withdraw.shaped n ∧ ∀ x, l.withdraw.outgoing.getLast? = some x → x.isAuthority = false := by
  obtain ⟨h1, h2, h3, h4, h5, h6, h7⟩ := h
  obtain ⟨m, hlast, he⟩ | ⟨hlast, he⟩ := l.withdraw_cases
  · rw [he]
    have hsub : l.outgoing.dropLast.Sublist l.outgoing := List.dropLast_sublist _
    refine ⟨⟨h1, ?_, ?_, noTwoAuthority_dropLast h4, ?_, h6, h7⟩, noTwoAuthority_before_last h4 hlast rfl⟩
    · exact Nat.le_trans (hsub.filter _).length_le h2
    · exact Nat.le_trans (((List.Sublist.refl l.transmitting.toList).append hsub).filter _).length_le h3
    · exact Nat.le_trans (List.length_filter_le ..) h5
  · rw [he]
    refine ⟨⟨h1, h2, h3, h4, h5, h6, h7⟩, fun x hx => ?_⟩
    cases x with
    | authority m => exact absurd hx (hlast m)
    | _ => rfl

theorem DriveLink.withdraw_quiet {l : DriveLink} (h : l.quiet) : l.withdraw.quiet := by
  obtain ⟨m, -, he⟩ | ⟨-, he⟩ := l.withdraw_cases
  · rw [he]
    exact ⟨by rw [h.1]; rfl, h.2⟩
  · rw [he]
    exact h

theorem State.issueAuthority_shaped {s : State} {n : Nat} (h : s.linkShaped n) :
    s.issueAuthority.linkShaped n := by
  obtain ⟨hs, hq⟩ := h
  obtain ⟨⟨h1, h2, h3, h4, h5, h6, h7⟩, hlast⟩ := DriveLink.withdraw_shaped hs
  have built : ({ s.link.withdraw with
      outgoing := s.link.withdraw.outgoing ++ [.authority s.authorityMessage]
      authSeq := s.link.withdraw.authSeq + 1 } : DriveLink).shaped n := by
    refine ⟨h1, ?_, ?_, noTwoAuthority_append _ h4 (.inr hlast), h5, h6, h7⟩
    · show ((s.link.withdraw.outgoing ++ [_]).filter OutItem.isNotice).length ≤ 8
      rw [DriveLink.notices_append, List.length_append]
      exact h2
    · have hu := s.link.withdraw.unsent_append (.authority s.authorityMessage)
      exact Nat.le_trans (Nat.le_of_eq hu) h3
  obtain ⟨b1, b2, b3, b4, -, b6, b7⟩ := built
  unfold State.issueAuthority
  dsimp only
  split
  next hm =>
    split
    next hlt =>
      refine ⟨⟨b1, b2, b3, b4, ?_, b6, b7⟩, fun h => absurd hm h⟩
      rw [State.setLink_link, List.length_append]
      exact hlt
    next => exact ⟨⟨h1, h2, h3, h4, h5, h6, h7⟩, fun h => absurd hm h⟩
  next hm => exact ⟨⟨b1, b2, b3, b4, h5, b6, b7⟩, fun h => DriveLink.withdraw_quiet (hq h)⟩

theorem State.completeNotices_shaped {s : State} {n : Nat} (h : s.linkShaped n) :
    s.completeNotices.linkShaped n ∧ s.completeNotices.noticesComplete := by
  obtain ⟨⟨h1, h2, h3, h4, h5, h6, h7⟩, hq⟩ := h
  have kind := OutItem.complete_kind s.ctl.mode
  refine ⟨⟨⟨h1, ?_, ?_, ?_, h5, h6, h7⟩, hq⟩, ?_⟩
  · show ((s.link.outgoing.map (OutItem.complete s.ctl.mode)).filter OutItem.isNotice).length ≤ 8
    rw [length_filter_map_of_eq fun x => (kind x).2.1]
    exact h2
  · show ((s.link.transmitting.toList ++ s.link.outgoing.map (OutItem.complete s.ctl.mode)).filter OutItem.isResponse).length ≤ n
    rw [List.filter_append, List.length_append, length_filter_map_of_eq fun x => (kind x).2.2.1,
      ← List.length_append, ← List.filter_append]
    exact h3
  · show noTwoAuthority (s.link.outgoing.map (OutItem.complete s.ctl.mode)) = true
    rw [noTwoAuthority_map fun x => (kind x).1]
    exact h4
  · show (s.link.outgoing.map (OutItem.complete s.ctl.mode)).all _ = true
    rw [List.all_map, List.all_eq_true]
    exact fun x _ => (kind x).2.2.2

theorem Work.close_shaped {w : Work} {n : Nat} (h : w.s.linkShaped n) :
    w.close.linkShaped n ∧ w.close.noticesComplete := by
  unfold Work.close
  split
  · exact State.completeNotices_shaped (State.issueAuthority_shaped h)
  · exact State.completeNotices_shaped h

/-! ### Moves -/

theorem State.transmit_linkOk {s : State} (h : s.linkShaped 1 ∧ s.noticesComplete) :
    s.transmit.linkShaped 1 ∧ s.transmit.noticesComplete := by
  obtain ⟨⟨⟨h1, h2, h3, h4, h5, h6, h7⟩, hq⟩, hc⟩ := h
  have hu : s.transmit.link.unsent = s.link.unsent := by
    unfold DriveLink.unsent
    rw [State.transmit_order]
  obtain he | ⟨x, xs, ht, ho, -, -, he⟩ := s.transmit_cases
  · rw [he]
    exact ⟨⟨⟨h1, h2, h3, h4, h5, h6, h7⟩, hq⟩, hc⟩
  · rw [he] at hu ⊢
    rw [ho] at h4
    have hsub : xs.Sublist s.link.outgoing := ho ▸ List.sublist_cons_self x xs
    refine ⟨⟨⟨h1, Nat.le_trans (hsub.filter _).length_le h2, hu ▸ h3, noTwoAuthority_cons h4, h5, h6, h7⟩,
      hq⟩, ?_⟩
    unfold State.noticesComplete at hc ⊢
    rw [ho, List.all_cons, Bool.and_eq_true] at hc
    exact hc.2

theorem State.issuePending_linkOk {s : State} (hm : s.ctl.mode = .serving)
    (h : s.linkShaped 1 ∧ s.noticesComplete) : s.issuePending.linkShaped 1 ∧ s.issuePending.noticesComplete := by
  unfold State.issuePending
  split
  · have hs : (s.setLink { s.link with pendingIssue := false }).linkShaped 1 :=
      ⟨h.1.1, fun hn => absurd hm hn⟩
    refine ⟨State.issueAuthority_shaped hs, ?_⟩
    have dropped : ∀ x ∈ s.link.withdraw.outgoing, x.isComplete = true := by
      have hall := List.all_eq_true.mp h.2
      obtain ⟨m, -, he⟩ | ⟨-, he⟩ := s.link.withdraw_cases
      · rw [he]; exact fun x hx => hall x ((List.dropLast_sublist _).subset hx)
      · rw [he]; exact hall
    have hw : (s.setLink { s.link with pendingIssue := false }).link.withdraw.outgoing
        = s.link.withdraw.outgoing := by
      unfold DriveLink.withdraw
      simp only [State.setLink_link]
      split <;> rfl
    refine List.all_eq_true.mpr fun x hx => ?_
    unfold State.issueAuthority at hx
    dsimp only at hx
    have joined : ∀ x ∈ (s.setLink { s.link with pendingIssue := false }).link.withdraw.outgoing
        ++ [OutItem.authority (s.setLink { s.link with pendingIssue := false }).authorityMessage],
        x.isComplete = true := by
      intro x hx
      obtain hx | hx := List.mem_append.mp hx
      · exact dropped x (hw ▸ hx)
      · rw [List.mem_singleton.mp hx]; rfl
    split at hx
    · split at hx
      · exact joined x hx
      · exact dropped x (hw ▸ hx)
    · exact joined x hx
  · exact h

/-- What is kept between commands: the load runs in INIT, the lists have their shape, and no notice is
incomplete. -/
theorem State.Move.linkOk {s t : State} (h : s.Move t) (hs : s.loadOk ∧ s.linkShaped 1 ∧ s.noticesComplete) :
    t.loadOk ∧ t.linkShaped 1 ∧ t.noticesComplete := by
  obtain ⟨hload, hshape, hcomp⟩ := hs
  have staged {n : Nat} {w : Work} (before : State) (hn : s.linkShaped n) (hw : (Work.begin s).Stages w)
      (v : Nat) : ((w.settle before).dropAtRest v).s.loadOk ∧ ((w.settle before).dropAtRest v).s.linkShaped n :=
    ((hw.trans (w.stages_settle before)).trans (Work.stages_dropAtRest v _)).keeps
      (P := fun x => x.s.loadOk ∧ x.s.linkShaped n) (fun _ _ hst hx => hst.linkShaped hx) ⟨hload, hn⟩
  have closed {w : Work} (hw : w.s.loadOk) : w.close.loadOk := by
    obtain ⟨l, he⟩ := w.close_link
    rw [he]
    exact hw
  have ⟨h1, h2, h3, h4, h5, h6, h7⟩ := hshape.1
  have hq := hshape.2
  cases h with
  | reset => exact ⟨fun _ => rfl, ⟨⟨Nat.zero_le _, Nat.zero_le _, Nat.zero_le _, rfl, Nat.zero_le _, rfl, nofun⟩,
      fun _ => ⟨rfl, rfl⟩⟩, rfl⟩
  | hold a b hab =>
    refine ⟨hload, ⟨⟨h1, h2, ?_, h4, h5, h6, h7⟩, hq⟩, hcomp⟩
    exact Nat.le_trans ((List.sublist_append_right _ _).filter _).length_le h3
  | rate r => exact ⟨hload, ⟨State.changeRate_shaped _ hshape.1, hq⟩, hcomp⟩
  | transmit =>
    refine ⟨?_, State.transmit_linkOk ⟨hshape, hcomp⟩⟩
    obtain ⟨l, he⟩ := s.transmit_link
    rw [he]
    exact hload
  | sent ht =>
    refine ⟨hload, ⟨⟨h1, h2, ?_, h4, h5, h6, h7⟩, hq⟩, hcomp⟩
    exact Nat.le_trans ((List.sublist_append_right _ _).filter _).length_le h3
  | take hi =>
    rw [hi, List.length_cons] at h1
    exact ⟨hload, ⟨⟨Nat.le_of_succ_le h1, h2, h3, h4, h5, h6, h7⟩, hq⟩, hcomp⟩
  | arrive f hlt =>
    refine ⟨hload, ⟨⟨?_, h2, h3, h4, h5, h6, h7⟩, hq⟩, hcomp⟩
    rw [State.setLink_link, List.length_append]
    exact hlt
  | linkRx bytes fuel hf =>
    obtain ⟨hr, hc⟩ := linkScan_rest fuel s.link.rxCut _ hf
    exact ⟨hload, ⟨⟨h1, h2, h3, h4, h5, hr, hc⟩, hq⟩, hcomp⟩
  | echo outs hle hm =>
    exact ⟨hload, ⟨⟨h1, h2, h3, h4, Nat.le_trans hle h5, h6, h7⟩, fun hn => absurd hm hn⟩, hcomp⟩
  | issuePending hm =>
    refine ⟨?_, State.issuePending_linkOk hm ⟨hshape, hcomp⟩⟩
    obtain ⟨l, he⟩ := s.issuePending_eq
    rw [he]
    exact hload
  | makeStale k => rw [s.makeStale_eq]; exact ⟨hload, hshape, hcomp⟩
  | event before v hh hw =>
    obtain ⟨hl, hn⟩ := staged before hshape hw v
    exact ⟨closed hl, Work.close_shaped hn⟩
  | @answer w before type code result hh hr hw =>
    have hzero : s.linkShaped 0 :=
      ⟨⟨h1, h2, Nat.le_of_eq (DriveLink.unsent_eq_zero hr), h4, h5, h6, h7⟩, hq⟩
    have done := staged before hzero hw 1
    rw [Work.dropAtRest_moving] at done
    obtain ⟨⟨⟨c1, c2, c3, c4, c5, c6, c7⟩, cq⟩, cc⟩ := Work.close_shaped done.2
    refine ⟨closed done.1, ⟨⟨c1, ?_, ?_, noTwoAuthority_append _ c4 (.inl rfl), c5, c6, c7⟩, cq⟩, ?_⟩
    · show ((_ ++ [OutItem.response type code result]).filter OutItem.isNotice).length ≤ 8
      rw [DriveLink.notices_append, List.length_append]
      exact c2
    · have hu := DriveLink.unsent_append (w.settle before).close.link (.response type code result)
      exact Nat.le_trans (Nat.le_of_eq hu) (Nat.succ_le_succ c3)
    · show (_ ++ [OutItem.response type code result]).all _ = true
      rw [List.all_append, Bool.and_eq_true]
      exact ⟨cc, rfl⟩
  | _ => exact ⟨hload, hshape, hcomp⟩

/-- Settles O8: every list grows only below its bound, an issue first withdraws the message it would stand
next to, and a response is built only while none is unsent. -/
theorem driveLinkListsKept : Obligations.DriveLinkListsKept := by
  intro s t hl hs h
  obtain ⟨hload, hlink⟩ := step_keeps (P := fun x => x.loadOk ∧ x.linkShaped 1 ∧ x.noticesComplete)
    (fun _ _ _ _ h => h) (fun _ _ hm => hm.linkOk) h ⟨hl, State.linkOk_iff.mp hs⟩
  exact ⟨hload, State.linkOk_iff.mpr hlink⟩

end Sys2Proof.Machine

/-!
PROOF. The route's geometry (R6, R11, R23, R28): live entries by place, starts as sums of lengths, the
carry along the route, and the entry containing a point.
-/

namespace Sys2Proof.Machine

/-! ### Sums of lengths -/

@[simp] theorem lengths_nil : lengths [] = 0 := rfl

@[simp] theorem lengths_cons (e : RouteEntry) (es : List RouteEntry) :
    lengths (e :: es) = e.length + lengths es := by
  simp only [lengths, List.map_cons, List.sum_cons]

theorem lengths_append (es es' : List RouteEntry) : lengths (es ++ es') = lengths es + lengths es' := by
  simp only [lengths, List.map_append, List.sum_append]

theorem lengths_take_succ {es : List RouteEntry} {k : Nat} {e : RouteEntry} (h : es[k]? = some e) :
    lengths (es.take (k + 1)) = lengths (es.take k) + e.length := by
  rw [List.take_add_one, h, Option.toList_some, lengths_append, lengths_cons, lengths_nil, Nat.add_zero]

theorem lengths_take_le (es : List RouteEntry) {j k : Nat} (h : j ≤ k) :
    lengths (es.take j) ≤ lengths (es.take k) := by
  obtain ⟨d, rfl⟩ := Nat.exists_eq_add_of_le h
  rw [List.take_add, lengths_append]
  exact Nat.le_add_right _ _

theorem lengths_take_add_drop (es : List RouteEntry) (j k : Nat) :
    lengths (es.take (j + k)) = lengths (es.take j) + lengths ((es.drop j).take k) := by
  rw [List.take_add, lengths_append]

/-- Entries of at least 300 cm each (R4) add up. -/
theorem lengths_ge {es : List RouteEntry} (h : ∀ e ∈ es, 300 ≤ e.length) : 300 * es.length ≤ lengths es := by
  induction es with
  | nil => exact Nat.le_refl 0
  | cons e es ih =>
    have hhead := h e List.mem_cons_self
    have htail := ih fun x hx => h x (List.mem_cons_of_mem _ hx)
    rw [lengths_cons, List.length_cons]
    omega

/-! ### Live entries by place -/

section
variable {r : RouteStore}

theorem RouteStore.ok.first_add (h : r.ok) : r.first + r.entries.length = r.nextIndex :=
  Nat.sub_add_cancel h.2.1

theorem RouteStore.entry?_first_add (r : RouteStore) (k : Nat) : r.entry? (r.first + k) = r.entries[k]? := by
  unfold RouteStore.entry?
  rw [if_neg (by omega), Nat.add_sub_cancel_left]

/-- A live entry's index lies behind the first one's by its place in the ring. -/
theorem RouteStore.entry?_eq_some {i : Nat} {e : RouteEntry} :
    r.entry? i = some e ↔ ∃ k, i = r.first + k ∧ r.entries[k]? = some e := by
  constructor
  · intro h
    have hge : r.first ≤ i := by
      refine Classical.byContradiction fun hlt => ?_
      rw [RouteStore.entry?, if_pos (Nat.lt_of_not_le hlt)] at h
      cases h
    obtain ⟨k, rfl⟩ := Nat.exists_eq_add_of_le hge
    exact ⟨k, rfl, r.entry?_first_add k ▸ h⟩
  · rintro ⟨k, rfl, h⟩
    rw [r.entry?_first_add, h]

theorem RouteStore.startOf_first_add (r : RouteStore) (k : Nat) :
    r.startOf (r.first + k) = lengths (r.entries.take k) := by
  rw [RouteStore.startOf, Nat.add_sub_cancel_left]

theorem RouteStore.startOf_mono (r : RouteStore) {i j : Nat} (h : i ≤ j) : r.startOf i ≤ r.startOf j :=
  lengths_take_le _ (Nat.sub_le_sub_right h _)

theorem RouteStore.endOf_eq {i : Nat} {e : RouteEntry} (h : r.entry? i = some e) :
    r.endOf i = r.startOf i + e.length := by
  obtain ⟨k, rfl, hk⟩ := RouteStore.entry?_eq_some.mp h
  rw [RouteStore.endOf, Nat.add_assoc, r.startOf_first_add, r.startOf_first_add, lengths_take_succ hk]

theorem RouteStore.endOf_le_startOf (r : RouteStore) {i j : Nat} (h : i < j) : r.endOf i ≤ r.startOf j :=
  r.startOf_mono h

theorem RouteStore.ok.length_ge (h : r.ok) {i : Nat} {e : RouteEntry} (he : r.entry? i = some e) :
    300 ≤ e.length := by
  obtain ⟨k, -, hk⟩ := RouteStore.entry?_eq_some.mp he
  exact (h.2.2.2.2.2.1 e (List.mem_of_getElem? hk)).2.1

/-- Between the starts of two live entries each entry takes at least 300 cm. -/
theorem RouteStore.ok.startOf_add_le (h : r.ok) {j k : Nat} (hk : j + k ≤ r.entries.length) :
    r.startOf (r.first + j) + 300 * k ≤ r.startOf (r.first + (j + k)) := by
  rw [r.startOf_first_add, r.startOf_first_add, lengths_take_add_drop]
  have hlen : ((r.entries.drop j).take k).length = k := by
    rw [List.length_take, List.length_drop]
    omega
  have hge := lengths_ge (es := (r.entries.drop j).take k) fun e he =>
    (h.2.2.2.2.2.1 e (List.mem_of_mem_drop (List.mem_of_mem_take he))).2.1
  rw [hlen] at hge
  omega

end

/-! ### The carry (R28) -/

/-- The carry keeps the distance, and ends on the entry whose length the offset is within, or on the last
of those it is carried along. -/
theorem carry_spec (es : List RouteEntry) (i off : Nat) (hne : es ≠ []) : ∃ k e, es[k]? = some e
    ∧ (carry es i off).index = i + k ∧ lengths (es.take k) + (carry es i off).offset = off
    ∧ ((carry es i off).offset < e.length ∨ k + 1 = es.length) := by
  induction es generalizing i off with
  | nil => exact absurd rfl hne
  | cons e es ih =>
    cases es with
    | nil => exact ⟨0, e, rfl, rfl, Nat.zero_add _, .inr rfl⟩
    | cons e' es =>
      unfold carry
      split
      next hle =>
        obtain ⟨k, x, hk, hi, hoff, hend⟩ := ih (i + 1) (off - e.length) (List.cons_ne_nil _ _)
        refine ⟨k + 1, x, by simpa using hk, by rw [hi]; omega, ?_, hend.imp_right fun h => by rw [h]; rfl⟩
        rw [List.take_succ_cons, lengths_cons]
        omega
      next hlt => exact ⟨0, e, rfl, rfl, Nat.zero_add _, .inl (Nat.lt_of_not_le hlt)⟩

section
variable {r : RouteStore}

/-- A position that holds names a live entry by place. -/
theorem RouteStore.holds_iff {p : RoutePos} : r.holds p = true ↔ ∃ k e, p.index = r.first + k
    ∧ r.entries[k]? = some e ∧ (p.offset < e.length ∨ p.index + 1 = r.nextIndex) := by
  unfold RouteStore.holds
  constructor
  · intro h
    split at h
    · cases h
    next e he =>
      obtain ⟨k, hk, hke⟩ := RouteStore.entry?_eq_some.mp he
      exact ⟨k, e, hk, hke, by simpa using h⟩
  · rintro ⟨k, e, hk, hke, hp⟩
    rw [RouteStore.entry?_eq_some.mpr ⟨k, hk, hke⟩]
    simpa using hp

/-- A position carried on from a live entry keeps its distance and holds. -/
theorem RouteStore.ok.carryOn_spec (h : r.ok) {p : RoutePos} {k : Nat} (hi : p.index = r.first + k)
    (hk : k < r.entries.length) :
    r.holds (r.carryOn p) = true ∧ r.distance (r.carryOn p) = r.distance p
      ∧ p.index ≤ (r.carryOn p).index := by
  have hne : r.entries.drop k ≠ [] := by
    rw [Ne, List.drop_eq_nil_iff]
    omega
  obtain ⟨j, e, hj, hidx, hoff, hend⟩ := carry_spec (r.entries.drop k) p.index p.offset hne
  have hcarry : r.carryOn p = carry (r.entries.drop k) p.index p.offset := by
    rw [RouteStore.carryOn, hi, Nat.add_sub_cancel_left]
  rw [← hcarry] at hidx hoff hend
  rw [List.getElem?_drop] at hj
  rw [List.length_drop] at hend
  refine ⟨RouteStore.holds_iff.mpr ⟨k + j, e, by omega, hj, hend.imp_right fun hl => ?_⟩, ?_, by omega⟩
  · have := h.first_add
    omega
  · rw [RouteStore.distance, RouteStore.distance, hidx, hi, Nat.add_assoc, r.startOf_first_add,
      r.startOf_first_add, lengths_take_add_drop]
    omega

/-- The route position of a point of the route (R11, R114). -/
theorem RouteStore.ok.locate_spec (h : r.ok) (hne : r.entries ≠ []) (x : Nat) :
    r.holds (r.locate x) = true ∧ r.distance (r.locate x) = x := by
  have hk : 0 < r.entries.length := List.length_pos_iff.mpr hne
  have hc : r.locate x = r.carryOn ⟨r.first, x⟩ := by
    rw [RouteStore.locate, RouteStore.carryOn, Nat.sub_self, List.drop_zero]
  obtain ⟨hh, hd, -⟩ := h.carryOn_spec (p := ⟨r.first, x⟩) (Nat.add_zero _).symm hk
  rw [hc]
  refine ⟨hh, hd.trans ?_⟩
  rw [RouteStore.distance, ← Nat.add_zero r.first, r.startOf_first_add]
  exact Nat.zero_add x

end

/-! ### The entry containing a point (R23) -/

theorem containing_eq_some {es : List RouteEntry} {i a x j b : Nat} {e : RouteEntry} (ha : a ≤ x) :
    containing es i a x = some (j, e, b) ↔ ∃ k, j = i + k ∧ es[k]? = some e
      ∧ b = a + lengths (es.take k) ∧ b ≤ x ∧ x < b + e.length := by
  induction es generalizing i a with
  | nil => simp [containing]
  | cons e' es ih =>
    unfold containing
    split
    next hlt =>
      constructor
      · rintro ⟨⟩
        exact ⟨0, rfl, rfl, rfl, ha, hlt⟩
      · rintro ⟨k, rfl, hk, rfl, hle, -⟩
        cases k with
        | zero =>
          obtain rfl := Option.some.inj hk
          rfl
        | succ k =>
          rw [List.take_succ_cons, lengths_cons] at hle
          omega
    next hge =>
      rw [ih (by omega)]
      constructor
      · rintro ⟨k, rfl, hk, rfl, hle, hlt⟩
        refine ⟨k + 1, by omega, by simpa using hk, ?_, hle, hlt⟩
        rw [List.take_succ_cons, lengths_cons]
        omega
      · rintro ⟨k, rfl, hk, rfl, hle, hlt⟩
        cases k with
        | zero =>
          obtain rfl := Option.some.inj hk
          rw [List.take_zero, lengths_nil] at hlt
          omega
        | succ k =>
          rw [List.take_succ_cons, lengths_cons] at hle hlt ⊢
          exact ⟨k, by omega, by simpa using hk, by omega, by omega, by omega⟩

theorem containing_eq_none {es : List RouteEntry} {i a x : Nat} (h : containing es i a x = none) :
    a + lengths es ≤ x ∨ es = [] := by
  induction es generalizing i a with
  | nil => exact .inr rfl
  | cons e es ih =>
    unfold containing at h
    split at h
    · cases h
    · left
      rw [lengths_cons]
      obtain h | rfl := ih h
      · omega
      · rw [lengths_nil]
        omega

section
variable {r : RouteStore}

/-- The live entry containing a point: the one that starts at or before it and ends behind it. -/
theorem RouteStore.cellAt_eq_some {x j b : Nat} {e : RouteEntry} :
    r.cellAt x = some (j, e, b) ↔ r.entry? j = some e ∧ b = r.startOf j ∧ b ≤ x ∧ x < r.endOf j := by
  unfold RouteStore.cellAt
  rw [containing_eq_some (Nat.zero_le x)]
  constructor
  · rintro ⟨k, rfl, hk, rfl, hle, hlt⟩
    have he := RouteStore.entry?_eq_some.mpr ⟨k, rfl, hk⟩
    rw [RouteStore.endOf_eq he, r.startOf_first_add]
    exact ⟨he, Nat.zero_add _, hle, by omega⟩
  · rintro ⟨he, rfl, hle, hlt⟩
    have hend := RouteStore.endOf_eq he
    obtain ⟨k, rfl, hk⟩ := RouteStore.entry?_eq_some.mp he
    rw [r.startOf_first_add] at *
    exact ⟨k, rfl, hk, (Nat.zero_add _).symm, hle, by omega⟩

theorem RouteStore.cellAt_eq_none {x : Nat} (h : r.cellAt x = none) : r.total ≤ x ∨ r.entries = [] := by
  obtain h | h := containing_eq_none h
  · exact .inl (by rw [RouteStore.total]; omega)
  · exact .inr h

theorem RouteStore.indexOfCell_eq_some {cell : CellId} {j : Nat} (h : r.indexOfCell cell = some j) :
    ∃ e, r.entry? j = some e ∧ e.cell = cell := by
  unfold RouteStore.indexOfCell at h
  obtain ⟨k, hk, rfl⟩ := Option.map_eq_some_iff.mp h
  obtain ⟨hlt, hcell, -⟩ := List.findIdx?_eq_some_iff_getElem.mp hk
  exact ⟨_, (r.entry?_first_add k).trans (List.getElem?_eq_getElem hlt), beq_iff_eq.mp hcell⟩

end

end Sys2Proof.Machine

/-!
PROOF. The own claim list (R38): its claims stand in order on the first live entries. Each operation on
claims keeps this, and so do the changes of route, claims and position together.
-/

namespace Sys2Proof.Machine

/-! ### Claims on the first live entries -/

/-- The claims stand on the first entries from rear to front: the k-th on the k-th live entry. -/
def RouteStore.carries (r : RouteStore) (cs : List Claim) : Prop :=
  ∀ (k : Nat) c, cs[k]? = some c → c.index = r.first + k ∧ ∃ e, r.entries[k]? = some e ∧ c.cell = e.cell

/-- From rear to front the claims are OCCUPIED, then HELD, then TENTATIVE. -/
def claimsSorted (cs : List Claim) : Prop := cs.Pairwise fun a b => b.state.code ≤ a.state.code

theorem RouteStore.carries.length_le {r : RouteStore} {cs : List Claim} (h : r.carries cs) :
    cs.length ≤ r.entries.length := by
  cases hl : cs.length with
  | zero => exact Nat.zero_le _
  | succ n =>
    have hlt : n < cs.length := by omega
    obtain ⟨-, e, he, -⟩ := h n _ (List.getElem?_eq_getElem hlt)
    exact (List.getElem?_eq_some_iff.mp he).1

theorem RouteStore.carries_iff {r : RouteStore} {cs : List Claim} : r.carries cs ↔
    cs.length ≤ r.entries.length ∧ cs.map (·.index) = List.range' r.first cs.length
      ∧ cs.map (·.cell) = (r.entries.take cs.length).map (·.cell) := by
  constructor
  · intro h
    refine ⟨h.length_le, ?_, ?_⟩
    · refine List.ext_getElem? fun k => ?_
      rw [List.getElem?_map]
      cases hk : cs[k]? with
      | none =>
        rw [List.getElem?_eq_none_iff] at hk
        exact (List.getElem?_eq_none_iff.mpr (by rwa [List.length_range'])).symm
      | some c =>
        rw [List.getElem?_range' (List.getElem?_eq_some_iff.mp hk).1, Option.map_some, (h k c hk).1, Nat.one_mul]
    · refine List.ext_getElem? fun k => ?_
      rw [List.getElem?_map, List.getElem?_map, List.getElem?_take]
      cases hk : cs[k]? with
      | none =>
        rw [List.getElem?_eq_none_iff] at hk
        rw [if_neg (by omega)]
        rfl
      | some c =>
        obtain ⟨-, e, he, hc⟩ := h k c hk
        rw [if_pos (List.getElem?_eq_some_iff.mp hk).1, he, Option.map_some, Option.map_some, hc]
  · rintro ⟨hlen, hi, hc⟩ k c hk
    have hlt := (List.getElem?_eq_some_iff.mp hk).1
    have hi := congrArg (·[k]?) hi
    have hc := congrArg (·[k]?) hc
    simp only [List.getElem?_map, hk, Option.map_some, List.getElem?_range' hlt, List.getElem?_take, hlt, if_true,
      Option.some.injEq] at hi hc
    refine ⟨by omega, _, List.getElem?_eq_getElem (Nat.lt_of_lt_of_le hlt hlen), ?_⟩
    rw [List.getElem?_eq_getElem (Nat.lt_of_lt_of_le hlt hlen), Option.map_some, Option.some_inj] at hc
    exact hc

/-- What the claim-list invariant says of route and claims alone. -/
def RouteStore.claimed (r : RouteStore) (cs : List Claim) : Prop :=
  cs.length ≤ 12 ∧ r.carries cs ∧ claimsSorted cs

/-- No claim is TENTATIVE. -/
def noneTentative (cs : List Claim) : Prop := ∀ c ∈ cs, c.state ≠ .tentative

theorem State.claimsOk_iff {s : State} : s.claimsOk ↔
    s.route.claimed s.claims.list ∧ (s.ctl.mode ≠ .serving → noneTentative s.claims.list) := by
  unfold State.claimsOk RouteStore.claimed claimsSorted noneTentative
  rw [RouteStore.carries_iff]
  constructor
  · rintro ⟨hlen, hfits, hindex, hcell, hsorted, hnone⟩
    exact ⟨⟨hlen, ⟨hfits, hindex, hcell⟩, hsorted⟩, hnone⟩
  · rintro ⟨⟨hlen, ⟨hfits, hindex, hcell⟩, hsorted⟩, hnone⟩
    exact ⟨hlen, hfits, hindex, hcell, hsorted, hnone⟩

theorem RouteStore.claimed_nil (r : RouteStore) : r.claimed [] :=
  ⟨Nat.zero_le _, fun _ _ h => absurd h (by simp), List.Pairwise.nil⟩

/-! ### Prefixes -/

theorem RouteStore.claimed.take {r : RouteStore} {cs : List Claim} (h : r.claimed cs) (n : Nat) :
    r.claimed (cs.take n) := by
  obtain ⟨h1, h2, h3⟩ := h
  refine ⟨Nat.le_trans (List.length_take_le' ..) h1, fun k c hk => ?_, h3.sublist (List.take_sublist ..)⟩
  rw [List.getElem?_take] at hk
  split at hk
  · exact h2 k c hk
  · cases hk

theorem takeWhile_eq_take {α : Type} (p : α → Bool) (l : List α) : ∃ n, l.takeWhile p = l.take n :=
  ⟨_, List.prefix_iff_eq_take.mp (List.takeWhile_prefix p)⟩

/-- Where each element that passes stands behind none that fails, a filter keeps the first few. -/
theorem filter_eq_take {α : Type} {p : α → Bool} {l : List α}
    (h : l.Pairwise fun a b => p b = true → p a = true) : ∃ n, l.filter p = l.take n := by
  induction l with
  | nil => exact ⟨0, rfl⟩
  | cons a l ih =>
    obtain ⟨ha, hl⟩ := List.pairwise_cons.mp h
    by_cases hp : p a = true
    · obtain ⟨n, hn⟩ := ih hl
      exact ⟨n + 1, by rw [List.filter_cons_of_pos hp, hn]; rfl⟩
    · refine ⟨0, ?_⟩
      rw [List.filter_eq_nil_iff.mpr fun b hb => ?_]
      · rfl
      · obtain rfl | hb := List.mem_cons.mp hb
        · exact hp
        · exact fun hpb => hp (ha b hb hpb)

/-- A drop by state from the front on keeps the claims in order. -/
theorem RouteStore.claimed.filter {r : RouteStore} {cs : List Claim} (h : r.claimed cs) {p : Claim → Bool}
    (hp : cs.Pairwise fun a b => p b = true → p a = true) : r.claimed (cs.filter p) := by
  obtain ⟨n, hn⟩ := filter_eq_take hp
  rw [hn]
  exact h.take n

theorem ClaimState.code_le_iff (a b : ClaimState) : b.code ≤ a.code ↔
    (b = .occupied → a = .occupied) ∧ (b ≠ .tentative → a ≠ .tentative) := by
  cases a <;> cases b <;> decide

theorem ClaimState.tentative_le (a : ClaimState) : ClaimState.tentative.code ≤ a.code := by
  cases a <;> decide

theorem claimsSorted.reserved {cs : List Claim} (h : claimsSorted cs) :
    cs.Pairwise fun a b => (b.state != .tentative) = true → (a.state != .tentative) = true :=
  h.imp fun hab => by
    rw [bne_iff_ne, bne_iff_ne]
    exact ((ClaimState.code_le_iff _ _).mp hab).2

theorem claimsSorted.occupied {cs : List Claim} (h : claimsSorted cs) :
    cs.Pairwise fun a b => (b.state == .occupied) = true → (a.state == .occupied) = true :=
  h.imp fun hab => by
    rw [beq_iff_eq, beq_iff_eq]
    exact ((ClaimState.code_le_iff _ _).mp hab).1

theorem noneTentative.sublist {cs cs' : List Claim} (h : noneTentative cs) (hs : cs'.Sublist cs) :
    noneTentative cs' := fun c hc => h c (hs.subset hc)

/-! ### Changes of claims in place -/

/-- A claim changed in place: on the same entry. -/
def Claim.sameEntry (c c' : Claim) : Prop := c'.index = c.index ∧ c'.cell = c.cell

/-- A claim list changed in place, one claim into one. -/
theorem RouteStore.carries.of_inPlace {r : RouteStore} {cs cs' : List Claim} (h : r.carries cs)
    (hcs : InPlace Claim.sameEntry cs cs') : r.carries cs' := by
  intro k c hk
  have hlt := (List.getElem?_eq_some_iff.mp hk).1
  have hlt' : k < cs.length := hcs.length_eq ▸ hlt
  have hsame := hcs.get hlt' hlt
  have hc : cs'[k] = c := (List.getElem?_eq_some_iff.mp hk).2
  rw [hc] at hsame
  obtain ⟨hi, e, he, hcell⟩ := h k _ (List.getElem?_eq_getElem hlt')
  exact ⟨hsame.1.trans hi, e, he, hsame.2.trans hcell⟩

/-- A change in place that leaves every state, as of a timer or an announce count. -/
theorem RouteStore.claimed.map {r : RouteStore} {cs : List Claim} (h : r.claimed cs) {f : Claim → Claim}
    (hf : ∀ c, c.sameEntry (f c) ∧ (f c).state = c.state) : r.claimed (cs.map f) := by
  obtain ⟨h1, h2, h3⟩ := h
  refine ⟨Nat.le_trans (Nat.le_of_eq (List.length_map _)) h1, h2.of_inPlace (InPlace.map (fun c => (hf c).1) cs), ?_⟩
  exact List.pairwise_map.mpr (h3.imp fun hab => by rw [(hf _).2, (hf _).2]; exact hab)

theorem noneTentative.map {cs : List Claim} (h : noneTentative cs) {f : Claim → Claim}
    (hf : ∀ c, (f c).state = c.state) : noneTentative (cs.map f) := by
  intro c hc
  obtain ⟨x, hx, rfl⟩ := List.mem_map.mp hc
  rw [hf]
  exact h x hx

/-! ### Promotion -/

/-- A promotion in place is of a TENTATIVE claim behind a reserved one. -/
theorem State.promotable_state {s : State} {d : Nat} {prev : Option Claim} {c : Claim}
    (h : s.promotable d prev c = true) :
    c.state = .tentative ∧ ∃ p, prev = some p ∧ p.state ≠ .tentative := by
  unfold State.promotable at h
  simp only [Bool.and_eq_true, beq_iff_eq] at h
  obtain ⟨⟨⟨⟨⟨hst, -⟩, -⟩, hprev⟩, -⟩, -⟩ := h
  refine ⟨hst, ?_⟩
  cases prev with
  | none => cases hprev
  | some p => exact ⟨p, rfl, bne_iff_ne.mp hprev⟩

theorem State.sweep_sameEntry (s : State) (prev : Option Claim) (d : Nat) (cs : List Claim) :
    InPlace Claim.sameEntry cs (s.sweep prev d cs).1 := by
  induction cs generalizing prev d with
  | nil => exact .nil
  | cons c cs ih =>
    unfold State.sweep
    split
    · exact .cons ⟨rfl, rfl⟩ (ih _ _)
    · exact .cons ⟨rfl, rfl⟩ (ih _ _)

/-- A sweep keeps the order of states, also behind the claim before it. -/
theorem State.sweep_sorted {s : State} (prev : Option Claim) (d : Nat) {cs : List Claim}
    (h : claimsSorted cs) (hp : ∀ p, prev = some p → ∀ c ∈ cs, c.state.code ≤ p.state.code) :
    claimsSorted (s.sweep prev d cs).1
      ∧ ∀ p, prev = some p → ∀ c ∈ (s.sweep prev d cs).1, c.state.code ≤ p.state.code := by
  induction cs generalizing prev d with
  | nil => exact ⟨h, hp⟩
  | cons c cs ih =>
    obtain ⟨hc, hcs⟩ := List.pairwise_cons.mp h
    unfold State.sweep
    split
    next hprom =>
      obtain ⟨hten, p, rfl, hpt⟩ := State.promotable_state hprom
      have hbelow : ∀ x ∈ cs, x.state.code ≤ (s.promoted c).state.code := by
        intro x hx
        have := hc x hx
        rw [hten] at this
        exact Nat.le_trans this (by decide : ClaimState.tentative.code ≤ ClaimState.held.code)
      obtain ⟨hsorted, hrest⟩ := ih (some (s.promoted c)) 0 hcs (by rintro _ ⟨⟩; exact hbelow)
      have hheld : (s.promoted c).state.code ≤ p.state.code := by
        show ClaimState.held.code ≤ p.state.code
        cases hps : p.state with
        | tentative => exact absurd hps hpt
        | held => decide
        | occupied => decide
      refine ⟨List.pairwise_cons.mpr ⟨hrest _ rfl, hsorted⟩, ?_⟩
      rintro _ ⟨⟩ x hx
      obtain rfl | hx := List.mem_cons.mp hx
      · exact hheld
      · exact Nat.le_trans (hrest _ rfl x hx) hheld
    next =>
      obtain ⟨hsorted, hrest⟩ := ih (some c) d hcs (by rintro _ ⟨⟩; exact hc)
      refine ⟨List.pairwise_cons.mpr ⟨hrest _ rfl, hsorted⟩, ?_⟩
      rintro p hpp x hx
      obtain rfl | hx := List.mem_cons.mp hx
      · exact hp p hpp x List.mem_cons_self
      · exact Nat.le_trans (hrest _ rfl x hx) (hp p hpp c List.mem_cons_self)

theorem State.sweep_reserved {s : State} (prev : Option Claim) (d : Nat) {cs : List Claim}
    (h : noneTentative cs) : noneTentative (s.sweep prev d cs).1 := by
  induction cs generalizing prev d with
  | nil => exact h
  | cons c cs ih =>
    have htail := fun p d => ih (prev := p) (d := d) fun x hx => h x (List.mem_cons_of_mem _ hx)
    unfold State.sweep
    split
    · intro x hx
      obtain rfl | hx := List.mem_cons.mp hx
      · exact fun he => nomatch he
      · exact htail _ _ x hx
    · intro x hx
      obtain rfl | hx := List.mem_cons.mp hx
      · exact h x List.mem_cons_self
      · exact htail _ _ x hx

theorem RouteStore.claimed.sweep {r : RouteStore} {cs : List Claim} (h : r.claimed cs) (s : State) (d : Nat) :
    r.claimed (s.sweep none d cs).1 :=
  ⟨(s.sweep_sameEntry none d cs).length_eq ▸ h.1, h.2.1.of_inPlace (s.sweep_sameEntry none d cs),
    (State.sweep_sorted none d h.2.2 nofun).1⟩

/-- Promotion from one claim on keeps the claims in order (R47, R49). -/
theorem RouteStore.claimed.promoteFrom {r : RouteStore} {s : State} (h : r.claimed s.claims.list) (i : Nat) :
    r.claimed (s.promoteFrom i).1.claims.list := by
  unfold State.promoteFrom
  dsimp only
  split
  · exact h
  next c rest hrest =>
    split
    · have hsplit := List.takeWhile_append_dropWhile (p := fun c : Claim => c.index != i) (l := s.claims.list)
      generalize hrear : s.claims.list.takeWhile (fun c => c.index != i) = rear at hsplit
      generalize hfront : s.claims.list.dropWhile (fun c => c.index != i) = front at hsplit
      obtain ⟨h1, h2, h3⟩ := h
      rw [← hsplit] at h1 h2 h3
      obtain ⟨hrs, hfs, hrf⟩ := List.pairwise_append.mp h3
      obtain ⟨hsorted, hbehind⟩ := State.sweep_sorted (s := s) rear.getLast? s.claims.deferral hfs
        fun p hp c hc => hrf p (List.mem_of_getLast? hp) c hc
      have hsame := (s.sweep_sameEntry rear.getLast? s.claims.deferral front)
      refine ⟨?_, h2.of_inPlace ((InPlace.refl (fun _ => ⟨rfl, rfl⟩) rear).append hsame), List.pairwise_append.mpr ⟨hrs, hsorted, ?_⟩⟩
      · rw [State.setClaims_claims, List.length_append, ← hsame.length_eq, ← List.length_append]
        exact h1
      · intro a ha b hb
        cases hl : rear.getLast? with
        | none => rw [List.getLast?_eq_none_iff.mp hl] at ha; cases ha
        | some l =>
          refine Nat.le_trans (hbehind l hl b hb) ?_
          obtain ⟨init, rfl⟩ := List.getLast?_eq_some_iff.mp hl
          obtain ha | ha := List.mem_append.mp ha
          · exact (List.pairwise_append.mp hrs).2.2 a ha l (List.mem_singleton_self l)
          · exact Nat.le_of_eq (by rw [List.mem_singleton.mp ha])
    · exact h

theorem noneTentative.promoteFrom {s : State} (h : noneTentative s.claims.list) (i : Nat) :
    noneTentative (s.promoteFrom i).1.claims.list := by
  unfold State.promoteFrom
  dsimp only
  split
  · exact h
  · split
    · intro c hc
      obtain hc | hc := List.mem_append.mp hc
      · exact h c ((List.takeWhile_sublist _).subset hc)
      · exact State.sweep_reserved _ _ (h.sublist (List.dropWhile_sublist _)) c hc
    · exact h

/-! ### New claims in front -/

/-- A claim joins in front on the next live entry, with a state not above the last one's (R38). -/
theorem RouteStore.claimed.append {r : RouteStore} {cs : List Claim} (h : r.claimed cs) {c : Claim}
    {e : RouteEntry} (hlen : cs.length < 12) (hi : c.index = r.first + cs.length)
    (he : r.entries[cs.length]? = some e) (hc : c.cell = e.cell)
    (hs : ∀ x ∈ cs, c.state.code ≤ x.state.code) : r.claimed (cs ++ [c]) := by
  obtain ⟨h1, h2, h3⟩ := h
  refine ⟨by rw [List.length_append]; exact hlen, fun k x hk => ?_,
    List.pairwise_append.mpr ⟨h3, List.pairwise_singleton _ _, ?_⟩⟩
  · rw [List.getElem?_append] at hk
    split at hk
    · exact h2 k x hk
    next hge =>
      have hlt := (List.getElem?_eq_some_iff.mp hk).1
      have hk0 : k = cs.length := by rw [List.length_singleton] at hlt; omega
      subst hk0
      rw [Nat.sub_self] at hk
      obtain rfl := Option.some.inj hk
      exact ⟨hi, e, he, hc⟩
  · intro a ha b hb
    rw [List.mem_singleton.mp hb]
    exact hs a ha

/-- What the next entry to claim is (R44): the one behind the frontmost claim's, with room in the list. -/
theorem State.nextToClaim_spec {s : State} {i : Nat} {e : RouteEntry} (h : s.nextToClaim = some (i, e)) :
    ∃ last, s.claims.list.getLast? = some last ∧ i = last.index + 1 ∧ s.route.entry? i = some e
      ∧ s.claims.list.length < 12 := by
  unfold State.nextToClaim at h
  split at h
  next last front hlast _ =>
    split at h
    next x hx =>
      split at h
      next hcond =>
        cases h
        exact ⟨last, hlast, rfl, hx, hcond.2.2.2.2.1⟩
      · cases h
    · cases h
  · cases h

/-- The frontmost claim stands on the last of the claimed entries. -/
theorem RouteStore.claimed.getLast_index {r : RouteStore} {cs : List Claim} (h : r.claimed cs) {c : Claim}
    (hc : cs.getLast? = some c) : c.index + 1 = r.first + cs.length := by
  rw [List.getLast?_eq_getElem?] at hc
  have hlt := (List.getElem?_eq_some_iff.mp hc).1
  have hi := (h.2.1 _ c hc).1
  omega

theorem RouteStore.claimed.nextToClaim {s : State} (h : s.route.claimed s.claims.list) {x : Nat × RouteEntry}
    (hx : s.nextToClaim = some x) :
    s.route.claimed (s.addClaim (s.newClaim x.1 x.2 .tentative 0 none)).claims.list := by
  obtain ⟨last, hlast, hi, he, hlen⟩ := State.nextToClaim_spec hx
  have hidx : x.1 = s.route.first + s.claims.list.length := hi.trans (h.getLast_index hlast)
  have he : s.route.entries[s.claims.list.length]? = some x.2 := by
    rw [← s.route.entry?_first_add, ← hidx]
    exact he
  exact h.append hlen hidx he rfl fun y _ => ClaimState.tentative_le y.state

theorem claimAheadLoop_claimed (n : Nat) {s : State} (h : s.route.claimed s.claims.list) :
    s.route.claimed (claimAheadLoop n s).claims.list := by
  induction n generalizing s with
  | zero => exact h
  | succ n ih =>
    unfold claimAheadLoop
    cases hx : s.nextToClaim with
    | none => exact h
    | some x => exact ih (h.nextToClaim hx)

theorem RouteStore.claimed.claimAhead {s : State} (h : s.route.claimed s.claims.list) :
    s.route.claimed s.claimAhead.claims.list := claimAheadLoop_claimed _ h

/-- Outside SERVING claiming ahead makes no claim (R44). -/
theorem State.claimAhead_of_not_serving {s : State} (h : s.ctl.mode ≠ .serving) : s.claimAhead = s := by
  obtain ⟨new, he, -, hnew⟩ := s.claimAhead_spec
  have hnil : new = [] := by
    refine Classical.byContradiction fun hne => ?_
    exact h (hnew hne)
  subst hnil
  rw [he]
  simp [State.setClaims]

/-- With no claim there is nothing to claim ahead of (R44). -/
theorem State.claimAhead_of_nil {s : State} (h : s.claims.list = []) : s.claimAhead = s := by
  have hn : s.nextToClaim = none := by
    unfold State.nextToClaim
    rw [h]
    rfl
  show claimAheadLoop 12 s = s
  unfold claimAheadLoop
  rw [hn]

/-! ### Occupation -/

/-- The claims before place `m` are OCCUPIED, and each of the first `m` entries has one, up to the twelfth:
what occupation has brought about once it has come to the entry in place `m` (R51, R52). -/
def RouteStore.occupiedTo (r : RouteStore) (m : Nat) (cs : List Claim) : Prop :=
  r.claimed cs ∧ (∀ (k : Nat) c, cs[k]? = some c → k < m → c.state = .occupied) ∧ (m ≤ cs.length ∨ cs.length = 12)

theorem RouteStore.claimed.claimAt {s : State} (h : s.route.claimed s.claims.list) (m : Nat) :
    s.claimAt (s.route.first + m) = s.claims.list[m]? := by
  unfold State.claimAt
  cases hm : s.claims.list[m]? with
  | none =>
    rw [List.find?_eq_none]
    intro c hc
    obtain ⟨k, hk⟩ := List.mem_iff_getElem?.mp hc
    have hi := (h.2.1 k c hk).1
    have hlt := (List.getElem?_eq_some_iff.mp hk).1
    have hge := List.getElem?_eq_none_iff.mp hm
    rw [beq_iff_eq]
    omega
  | some c =>
    rw [List.find?_eq_some_iff_getElem]
    obtain ⟨hlt, hc⟩ := List.getElem?_eq_some_iff.mp hm
    refine ⟨beq_iff_eq.mpr (h.2.1 m c hm).1, m, hlt, hc, fun j hj => ?_⟩
    have hji := (h.2.1 j _ (List.getElem?_eq_getElem (Nat.lt_trans hj hlt))).1
    simp only [Bool.not_eq_eq_eq_not, Bool.not_true, beq_eq_false_iff_ne, ne_eq]
    omega

theorem Claim.entered_state (c : Claim) (now : Nat) : (c.entered now).state = .occupied := by
  unfold Claim.entered
  split
  · rfl
  · rfl
  next h => exact h

theorem Claim.entered_sameEntry (c : Claim) (now : Nat) : c.sameEntry (c.entered now) := by
  unfold Claim.entered
  split <;> exact ⟨rfl, rfl⟩

/-- The claim list once the front bound has entered the entry in place `m`. -/
theorem State.enterEntry_list {s : State} {m : Nat} (h : s.route.claimed s.claims.list) (e : RouteEntry) :
    (s.enterEntry (s.route.first + m) e).1.claims.list =
      if m < s.claims.list.length then
        s.claims.list.map fun x => if x.index = s.route.first + m then x.entered s.now else x
      else if s.claims.list.length < 12 then
        s.claims.list ++ [s.newClaim (s.route.first + m) e .occupied 0 (some s.now)]
      else s.claims.list := by
  unfold State.enterEntry
  rw [h.claimAt m]
  split
  next hm => rw [if_pos (List.getElem?_eq_some_iff.mp hm).1]; rfl
  next hm =>
    rw [if_neg (Nat.not_lt.mpr (List.getElem?_eq_none_iff.mp hm))]
    split
    next hroom => exact (if_pos hroom).symm
    next hfull => exact (if_neg hfull).symm

theorem RouteStore.occupiedTo.enterEntry {s : State} {m : Nat} {e : RouteEntry}
    (h : s.route.occupiedTo m s.claims.list) (he : s.route.entries[m]? = some e) :
    s.route.occupiedTo (m + 1) (s.enterEntry (s.route.first + m) e).1.claims.list := by
  obtain ⟨hcl, hocc, hfull⟩ := h
  obtain ⟨h1, h2, h3⟩ := hcl
  rw [State.enterEntry_list ⟨h1, h2, h3⟩]
  split
  next hlt =>
    have hidx : ∀ (k : Nat) c, s.claims.list[k]? = some c → (c.index = s.route.first + m ↔ k = m) := by
      intro k c hk
      have := (h2 k c hk).1
      omega
    refine ⟨⟨Nat.le_trans (Nat.le_of_eq (List.length_map _)) h1, h2.of_inPlace (InPlace.map (fun c => ?_) _), ?_⟩, ?_, ?_⟩
    · split
      · exact c.entered_sameEntry s.now
      · exact ⟨rfl, rfl⟩
    · refine List.pairwise_iff_getElem.mpr fun i j hi hj hij => ?_
      rw [List.getElem_map, List.getElem_map]
      rw [List.length_map] at hi hj
      have hold := List.pairwise_iff_getElem.mp h3 i j hi hj hij
      have hii := hidx i _ (List.getElem?_eq_getElem hi)
      have hjj := hidx j _ (List.getElem?_eq_getElem hj)
      by_cases hjm : j = m
      · have hip : s.claims.list[i].state = .occupied := hocc i _ (List.getElem?_eq_getElem hi) (by omega)
        exact Nat.le_of_eq (by
          rw [if_pos (hjj.mpr hjm), if_neg (fun h => by have := hii.mp h; omega), hip, Claim.entered_state])
      · rw [if_neg (fun h => hjm (hjj.mp h))]
        split
        · rw [Claim.entered_state]
          cases s.claims.list[j].state <;> decide
        · exact hold
    · intro k c hk hkm
      rw [List.getElem?_map] at hk
      obtain ⟨x, hx, rfl⟩ := Option.map_eq_some_iff.mp hk
      split
      · exact x.entered_state s.now
      next hne => exact hocc k x hx (by have := mt (hidx k x hx).mpr hne; omega)
    · rw [List.length_map]
      exact .inl hlt
  next hge =>
    split
    next hroom =>
      have hm : m = s.claims.list.length := by omega
      subst hm
      refine ⟨RouteStore.claimed.append ⟨h1, h2, h3⟩ hroom rfl he rfl fun x hx => ?_, ?_, ?_⟩
      · obtain ⟨k, hk⟩ := List.mem_iff_getElem?.mp hx
        rw [hocc k x hk (List.getElem?_eq_some_iff.mp hk).1]
        exact Nat.le_refl _
      · intro k c hk _
        rw [List.getElem?_append] at hk
        split at hk
        next hkl => exact hocc k c hk hkl
        next hkl =>
          have hlt := (List.getElem?_eq_some_iff.mp hk).1
          rw [List.length_singleton] at hlt
          have hk0 : k - s.claims.list.length = 0 := by omega
          rw [hk0] at hk
          obtain rfl := Option.some.inj hk
          rfl
      · rw [List.length_append]
        exact .inl (Nat.le_refl _)
    next hfull' =>
      have hall : s.claims.list.length = 12 := by omega
      refine ⟨⟨h1, h2, h3⟩, fun k c hk _ => hocc k c hk ?_, .inr hall⟩
      have := (List.getElem?_eq_some_iff.mp hk).1
      omega

theorem State.enterEntry_route (s : State) (i : Nat) (e : RouteEntry) : (s.enterEntry i e).1.route = s.route := by
  obtain ⟨k, h⟩ := s.enterEntry_claims i e
  rw [h]
  rfl

/-- Occupation from the entry in place `m` on comes to some place `n`, the first whose entry does not start
before the front bound (R51, R52). -/
theorem enterUpTo_occupied (front : Nat) (es : List RouteEntry) {s : State} {m : Nat} (at_ : Nat)
    (hes : es = s.route.entries.drop m) (h : s.route.occupiedTo m s.claims.list) :
    ∃ n, m ≤ n ∧ s.route.occupiedTo n (enterUpTo front es (s.route.first + m) at_ s).1.claims.list := by
  induction es generalizing s m at_ with
  | nil => exact ⟨m, Nat.le_refl m, h⟩
  | cons e es ih =>
    unfold enterUpTo
    split
    · have he : s.route.entries[m]? = some e := by
        rw [← Nat.add_zero m, ← List.getElem?_drop, ← hes]
        rfl
      have htail : es = s.route.entries.drop (m + 1) := by
        rw [← List.drop_drop, ← hes]
        rfl
      have hroute := s.enterEntry_route (s.route.first + m) e
      obtain ⟨n, hn, hocc⟩ := ih (s := (s.enterEntry (s.route.first + m) e).1) (m := m + 1) (at_ + e.length)
        (by rw [hroute]; exact htail) (by rw [hroute]; exact h.enterEntry he)
      rw [hroute] at hocc
      exact ⟨n, by omega, hocc⟩
    · exact ⟨m, Nat.le_refl m, h⟩

theorem RouteStore.claimed.enterUpTo {s : State} (h : s.route.claimed s.claims.list) (front : Nat) :
    s.route.claimed (enterUpTo front s.route.entries s.route.first 0 s).1.claims.list := by
  obtain ⟨n, -, hocc⟩ := enterUpTo_occupied front s.route.entries (m := 0) 0 rfl
    ⟨h, fun _ _ _ hk => absurd hk (Nat.not_lt_zero _), .inl (Nat.zero_le _)⟩
  exact hocc.1

theorem State.enterEntry_reserved {s : State} (i : Nat) (e : RouteEntry) (h : noneTentative s.claims.list) :
    noneTentative (s.enterEntry i e).1.claims.list := by
  unfold State.enterEntry
  split
  · intro c hc
    obtain ⟨x, hx, rfl⟩ := List.mem_map.mp hc
    split
    · rw [Claim.entered_state]; decide
    · exact h x hx
  · split
    · intro c hc
      obtain hc | hc := List.mem_append.mp hc
      · exact h c hc
      · rw [List.mem_singleton.mp hc]
        exact fun he => nomatch he
    · exact h

theorem enterUpTo_reserved (front : Nat) (es : List RouteEntry) (i at_ : Nat) {s : State}
    (h : noneTentative s.claims.list) : noneTentative (enterUpTo front es i at_ s).1.claims.list := by
  induction es generalizing s i at_ with
  | nil => exact h
  | cons e es ih =>
    unfold enterUpTo
    split
    · exact ih _ _ (State.enterEntry_reserved i e h)
    · exact h

end Sys2Proof.Machine

/-!
PROOF. Route, claims and position (R6, R20, R38) through every step.
-/

namespace Sys2Proof.Machine

/-! ### Release (R53) -/

/-- How far release goes: the entries let go end at or before the rear bound, one live entry stays, and the
next one with a claim, if not the last, ends behind the bound. -/
theorem releaseBehind_spec (cs : List Claim) (es : List RouteEntry) (rear : Int) : ∃ k,
    releaseBehind cs es rear = (cs.drop k, es.drop k) ∧ k ≤ cs.length ∧ (k = 0 ∨ k < es.length)
      ∧ (k = 0 ∨ (lengths (es.take k) : Int) ≤ rear)
      ∧ (k = cs.length ∨ es.length ≤ k + 1 ∨ rear < lengths (es.take (k + 1))) := by
  induction es generalizing cs rear with
  | nil => exact ⟨0, by cases cs <;> rfl, Nat.zero_le _, .inl rfl, .inl rfl, .inr (.inl (Nat.zero_le _))⟩
  | cons e es ih =>
    cases cs with
    | nil => exact ⟨0, by cases es <;> rfl, Nat.zero_le _, .inl rfl, .inl rfl, .inl rfl⟩
    | cons c cs =>
      cases es with
      | nil => exact ⟨0, rfl, Nat.zero_le _, .inl rfl, .inl rfl, .inr (.inl (Nat.le_refl _))⟩
      | cons e' es =>
        unfold releaseBehind
        split
        next hle =>
          obtain ⟨k, hk, hc, hlt, hrear, hmax⟩ := ih cs (rear - e.length)
          simp only [List.length_cons] at hlt hmax ⊢
          refine ⟨k + 1, hk, by omega, by omega, .inr ?_, ?_⟩
          · rw [List.take_succ_cons, lengths_cons]
            obtain rfl | hrear := hrear
            · rw [List.take_zero, lengths_nil]; omega
            · omega
          · obtain h | h | h := hmax
            · exact .inl (by omega)
            · exact .inr (.inl (by omega))
            · refine .inr (.inr ?_)
              rw [List.take_succ_cons, lengths_cons]
              omega
        next hlt =>
          refine ⟨0, rfl, Nat.zero_le _, .inl rfl, .inl rfl, .inr (.inr ?_)⟩
          rw [Nat.zero_add, List.take_succ_cons, List.take_zero, lengths_cons, lengths_nil]
          omega

section
variable {r : RouteStore} {cs : List Claim}

/-- The route with its first `k` live entries retired (R10). -/
def RouteStore.retire (r : RouteStore) (k : Nat) : RouteStore := { r with entries := r.entries.drop k }

theorem RouteStore.ok.retire_first (h : r.ok) {k : Nat} (hk : k ≤ r.entries.length) :
    (r.retire k).first = r.first + k := by
  have := h.first_add
  unfold RouteStore.first RouteStore.retire
  rw [List.length_drop]
  dsimp only
  unfold RouteStore.first at this
  omega

theorem RouteStore.reset_ok : RouteStore.reset.ok :=
  ⟨by decide, by decide, by decide, ⟨fun _ => rfl, fun _ => rfl⟩, fun _ => rfl, fun _ he => absurd he List.not_mem_nil,
    List.nodup_nil⟩

theorem RouteStore.ok.retire (h : r.ok) {k : Nat} (hk : k = 0 ∨ k < r.entries.length) : (r.retire k).ok := by
  obtain ⟨h1, h2, h3, h4, h5, h6, h7⟩ := h
  have hlen : (r.retire k).entries.length = r.entries.length - k := List.length_drop
  have hnil : (r.retire k).entries = [] ↔ r.entries = [] := by
    rw [← List.length_eq_zero_iff, ← List.length_eq_zero_iff, hlen]
    omega
  refine ⟨by omega, Nat.le_trans (by omega) h2, h3, h4.trans hnil.symm, fun hn => h5 (hnil.mp hn),
    fun e he => h6 e (List.mem_of_mem_drop he), ?_⟩
  exact h7.sublist ((List.drop_sublist _ _).map _)

theorem RouteStore.ok.retire_carries (h : r.ok) {k : Nat} (hk : k ≤ r.entries.length) (hc : r.carries cs) :
    (r.retire k).carries (cs.drop k) := by
  intro j c hj
  rw [List.getElem?_drop] at hj
  obtain ⟨hi, e, he, hcell⟩ := hc _ c hj
  rw [h.retire_first hk]
  exact ⟨by omega, e, by rw [RouteStore.retire, List.getElem?_drop]; exact he, hcell⟩

/-- A position that is not behind the retired entries goes on holding. -/
theorem RouteStore.ok.retire_holds (h : r.ok) {p : RoutePos} (hp : r.holds p = true) {k : Nat}
    (hk : k = 0 ∨ k < r.entries.length) (hrear : k = 0 ∨ lengths (r.entries.take k) ≤ r.distance p) :
    (r.retire k).holds p = true := by
  obtain ⟨j, e, hj, he, hoff⟩ := RouteStore.holds_iff.mp hp
  have hjl := (List.getElem?_eq_some_iff.mp he).1
  have hfirst := h.first_add
  have hkj : k ≤ j := by
    refine Classical.byContradiction fun hlt => ?_
    obtain hk0 | hrear := hrear
    · omega
    have hle := lengths_take_le r.entries (j := j + 1) (k := k) (by omega)
    rw [lengths_take_succ he] at hle
    rw [RouteStore.distance, hj, r.startOf_first_add] at hrear
    omega
  refine RouteStore.holds_iff.mpr ⟨j - k, e, ?_, ?_, hoff⟩
  · rw [h.retire_first (by omega)]
    omega
  · rw [RouteStore.retire, List.getElem?_drop, Nat.add_sub_cancel' hkj]
    exact he

end

/-! ### The invariant in parts -/

/-- Route, claims and position agree: the invariant, its parts by name. -/
structure State.Structured (s : State) : Prop where
  config : s.config.ok
  route : s.route.ok
  claimed : s.route.claimed s.claims.list
  reserved : s.ctl.mode ≠ .serving → noneTentative s.claims.list
  base : s.pos.base ≤ 300
  started : s.pos.start = true → ∃ p, s.pos.pos = some p ∧ s.route.holds p = true
  waiting : s.pos.start = false → s.pos.pos = none ∧ s.claims.list = []

theorem State.structureOk_iff {s : State} : s.structureOk ↔ s.Structured := by
  have hpos : s.posOk ↔ s.pos.base ≤ 300
      ∧ (s.pos.start = true → ∃ p, s.pos.pos = some p ∧ s.route.holds p = true)
      ∧ (s.pos.start = false → s.pos.pos = none ∧ s.claims.list = []) := by
    unfold State.posOk
    cases s.pos.start <;> simp [Option.any_eq_true]
  unfold State.structureOk
  rw [State.claimsOk_iff, hpos]
  constructor
  · rintro ⟨h1, h2, ⟨h3, h4⟩, h5, h6, h7⟩
    exact ⟨h1, h2, h3, h4, h5, h6, h7⟩
  · rintro ⟨h1, h2, h3, h4, h5, h6, h7⟩
    exact ⟨h1, h2, ⟨h3, h4⟩, h5, h6, h7⟩

/-- A state with a position has had its start. -/
theorem State.Structured.start_of_pos {s : State} (h : s.Structured) {p : RoutePos} (hp : s.pos.pos = some p) :
    s.pos.start = true := by
  refine Classical.byContradiction fun hs => ?_
  have := (h.waiting (Bool.eq_false_iff.mpr hs)).1
  rw [hp] at this
  cases this

theorem State.Structured.holds {s : State} (h : s.Structured) {p : RoutePos} (hp : s.pos.pos = some p) :
    s.route.holds p = true := by
  obtain ⟨q, hq, hh⟩ := h.started (h.start_of_pos hp)
  rw [hp] at hq
  obtain rfl := Option.some.inj hq
  exact hh

theorem State.front?_eq_some {s : State} {front : Nat} (h : s.front? = some front) :
    ∃ p, s.pos.pos = some p ∧ front = s.route.distance p + s.pos.u := by
  obtain ⟨p, hp, hf⟩ := Option.map_eq_some_iff.mp h
  exact ⟨p, hp, hf.symm⟩

/-! ### Changes of the claims alone -/

theorem claimsSorted.notHeld {cs : List Claim} (h : claimsSorted cs) (hr : noneTentative cs) :
    cs.Pairwise fun a b => (b.state != .held) = true → (a.state != .held) = true := by
  refine h.imp_of_mem fun {a b} ha hb hab hbh => ?_
  rw [bne_iff_ne] at hbh ⊢
  have hb' : b.state = .occupied := by
    cases hst : b.state with
    | tentative => exact absurd hst (hr b hb)
    | held => exact absurd hst hbh
    | occupied => rfl
  rw [((ClaimState.code_le_iff _ _).mp hab).1 hb']
  decide

theorem Claim.announced_frame (now y : Nat) (c : Claim) :
    c.sameEntry (c.announced now y) ∧ (c.announced now y).state = c.state := by
  unfold Claim.announced
  split <;> exact ⟨⟨rfl, rfl⟩, rfl⟩

theorem State.ClaimEdit.claimed {s : State} {k : ClaimEngine} (h : s.ClaimEdit k) (hs : s.Structured) :
    s.route.claimed k.list := by
  have hc := hs.claimed
  cases h with
  | claimAhead => exact hc.claimAhead
  | promoteAll => exact hc.sweep s s.claims.deferral
  | promoteFrom i => exact hc.promoteFrom i
  | announce ids =>
    refine hc.map fun c => ?_
    split
    · exact c.announced_frame _ _
    · exact ⟨⟨rfl, rfl⟩, rfl⟩
  | enter front hf => exact hc.enterUpTo front
  | yieldTo id d b hd =>
    obtain ⟨n, hn⟩ := takeWhile_eq_take (fun c : Claim => c.identity != id) s.claims.list
    exact hn ▸ hc.take n
  | stopYieldTimer i =>
    refine hc.map fun c => ?_
    split <;> exact ⟨⟨rfl, rfl⟩, rfl⟩
  | stopHoldTimer i =>
    refine hc.map fun c => ?_
    split <;> exact ⟨⟨rfl, rfl⟩, rfl⟩
  | stopBackoff => exact hc
  | urgency => exact hc
  | dropHeld hm => exact hc.filter (hc.2.2.notHeld (hs.reserved (by rw [hm]; decide)))

theorem State.ClaimEdit.reserved {s : State} {k : ClaimEngine} (h : s.ClaimEdit k)
    (hm : s.ctl.mode ≠ .serving) (hr : noneTentative s.claims.list) : noneTentative k.list := by
  cases h with
  | claimAhead => rw [State.claimAhead_of_not_serving hm]; exact hr
  | promoteAll => exact State.sweep_reserved none _ hr
  | promoteFrom i => exact hr.promoteFrom i
  | announce ids =>
    refine hr.map fun c => ?_
    split
    · exact (c.announced_frame _ _).2
    · rfl
  | enter front hf => exact enterUpTo_reserved _ _ _ _ hr
  | yieldTo id d b hd => exact hr.sublist (List.takeWhile_sublist _)
  | stopYieldTimer i => exact hr.map fun c => by split <;> rfl
  | stopHoldTimer i => exact hr.map fun c => by split <;> rfl
  | stopBackoff => exact hr
  | urgency => exact hr
  | dropHeld => exact hr.sublist List.filter_sublist

/-- Before start there is no claim, and none comes about (R38, R44). -/
theorem State.ClaimEdit.nil {s : State} {k : ClaimEngine} (h : s.ClaimEdit k) (hp : s.pos.pos = none)
    (hn : s.claims.list = []) : k.list = [] := by
  cases h with
  | claimAhead => rw [State.claimAhead_of_nil hn]; exact hn
  | promoteAll => show (s.sweep _ _ s.claims.list).1 = []; rw [hn]; rfl
  | promoteFrom i =>
    unfold State.promoteFrom
    rw [hn]
    exact hn
  | announce ids => show s.claims.list.map _ = []; rw [hn]; rfl
  | enter front hf => rw [State.front?, hp] at hf; cases hf
  | yieldTo id d b hd => show s.claims.list.takeWhile _ = []; rw [hn]; rfl
  | stopYieldTimer i => show s.claims.list.map _ = []; rw [hn]; rfl
  | stopHoldTimer i => show s.claims.list.map _ = []; rw [hn]; rfl
  | stopBackoff => exact hn
  | urgency => exact hn
  | dropHeld => show s.claims.list.filter _ = []; rw [hn]; rfl

/-- A change of the claims that keeps them in order keeps route, claims and position in agreement. -/
theorem State.Structured.setClaims {s : State} (h : s.Structured) {k : ClaimEngine}
    (hc : s.route.claimed k.list) (hr : s.ctl.mode ≠ .serving → noneTentative k.list)
    (hn : s.pos.pos = none → s.claims.list = [] → k.list = []) : (s.setClaims k).Structured :=
  ⟨h.config, h.route, hc, hr, h.base, h.started, fun hs =>
    ⟨(h.waiting hs).1, hn (h.waiting hs).1 (h.waiting hs).2⟩⟩

theorem State.ClaimEdit.structured {s : State} {k : ClaimEngine} (h : s.ClaimEdit k) (hs : s.Structured) :
    (s.setClaims k).Structured :=
  hs.setClaims (h.claimed hs) (fun hm => h.reserved hm (hs.reserved hm)) h.nil

/-! ### Changes of the position alone -/

theorem State.Structured.setPos {s : State} (h : s.Structured) {p : PositionUnit} (hb : p.base ≤ 300)
    (hstart : p.start = s.pos.start)
    (hp : p.pos = s.pos.pos ∨ (s.pos.start = true ∧ ∃ q, p.pos = some q ∧ s.route.holds q = true)) :
    (s.setPos p).Structured := by
  refine ⟨h.config, h.route, h.claimed, h.reserved, hb, fun hs => ?_, fun hs => ?_⟩
  · obtain hp | ⟨-, q, hq, hh⟩ := hp
    · obtain ⟨q, hq, hh⟩ := h.started (hstart ▸ hs)
      exact ⟨q, hp.trans hq, hh⟩
    · exact ⟨q, hq, hh⟩
  · have hw : s.pos.start = false := hstart ▸ hs
    obtain hp | ⟨ht, -⟩ := hp
    · exact ⟨hp.trans (h.waiting hw).1, (h.waiting hw).2⟩
    · exact absurd (ht.symm.trans hw) nofun

theorem State.PosEdit.structured {s : State} {p : PositionUnit} (h : s.PosEdit p) (hs : s.Structured) :
    (s.setPos p).Structured := by
  cases h with
  | speed v hv => exact hs.setPos hs.base rfl (.inl rfl)
  | move q d hst hq =>
    obtain ⟨k, e, hk, he, -⟩ := RouteStore.holds_iff.mp (hs.holds hq)
    have hcarry := hs.route.carryOn_spec (p := ⟨q.index, q.offset + d⟩) hk (List.getElem?_eq_some_iff.mp he).1
    exact hs.setPos hs.base rfl (.inr ⟨hst, _, rfl, hcarry.1⟩)
  | fix j cell hst hj =>
    obtain ⟨e, he, -⟩ := RouteStore.indexOfCell_eq_some hj
    obtain ⟨k, hk, hke⟩ := RouteStore.entry?_eq_some.mp he
    have hlen := hs.route.length_ge he
    refine hs.setPos (Nat.zero_le _) rfl (.inr ⟨hst, _, rfl, RouteStore.holds_iff.mpr ⟨k, e, hk, hke, .inl ?_⟩⟩)
    show 0 < e.length
    omega
  | offRoute n hn => exact hs.setPos hs.base rfl (.inl rfl)

/-! ### Changes of the layout -/

theorem State.release_structured {s : State} (hs : s.Structured) : s.release.Structured := by
  unfold State.release
  split
  · exact hs
  next rear hrear =>
    obtain ⟨p, hp, hrear⟩ := Option.map_eq_some_iff.mp hrear
    obtain ⟨k, hk, hkc, hke, hle, -⟩ := releaseBehind_spec s.claims.list s.route.entries rear
    have hkl : k ≤ s.route.entries.length := by omega
    rw [hk]
    refine ⟨hs.config, hs.route.retire hke, ⟨?_, hs.route.retire_carries hkl hs.claimed.2.1,
      hs.claimed.2.2.sublist (List.drop_sublist _ _)⟩, fun hm => (hs.reserved hm).sublist (List.drop_sublist _ _),
      hs.base, fun hst => ⟨p, hp, ?_⟩, fun hst => ?_⟩
    · have := hs.claimed.1
      show (s.claims.list.drop k).length ≤ 12
      rw [List.length_drop]
      omega
    · refine hs.route.retire_holds (hs.holds hp) hke (hle.imp_right fun hle => ?_)
      omega
    · have := (hs.waiting hst).1
      rw [hp] at this
      cases this

/-- Start claims on `n` entries from the live entry in place `m` on: one on each, up to the last (R54). -/
theorem addStartClaims_spec (n m : Nat) (s : State) : ∃ new,
    addStartClaims n (s.route.first + m) s = s.setClaims { s.claims with
      list := s.claims.list ++ new, nextIdentity := s.claims.nextIdentity + new.length }
    ∧ new.length = min n (s.route.entries.length - m)
    ∧ ∀ (k : Nat) c, new[k]? = some c → c.index = s.route.first + (m + k)
      ∧ (∃ e, s.route.entries[m + k]? = some e ∧ c.cell = e.cell ∧ c.crane = e.crane)
      ∧ c.state = .occupied ∧ c.announce = 2 ∧ c.firstAnnounce = none ∧ c.heldSince = some s.now
      ∧ c.yieldTimer = none ∧ c.holdTimer = none ∧ c.identity = s.claims.nextIdentity + k := by
  induction n generalizing m s with
  | zero => exact ⟨[], by simp [addStartClaims, State.setClaims], by simp, by simp⟩
  | succ n ih =>
    unfold addStartClaims
    rw [s.route.entry?_first_add]
    split
    next hnone =>
      have := List.getElem?_eq_none_iff.mp hnone
      exact ⟨[], by simp [State.setClaims], by simp; omega, by simp⟩
    next e he =>
      have hlt := (List.getElem?_eq_some_iff.mp he).1
      obtain ⟨new, h1, h2, h3⟩ :=
        ih (m + 1) (s.addClaim (s.newClaim (s.route.first + m) e .occupied 2 (some s.now)))
      refine ⟨s.newClaim (s.route.first + m) e .occupied 2 (some s.now) :: new, ?_, ?_, ?_⟩
      · rw [Nat.add_assoc, show addStartClaims n (s.route.first + (m + 1)) _ = _ from h1]
        simp [State.setClaims, State.addClaim, Nat.add_comm, Nat.add_left_comm]
      · rw [List.length_cons, h2, State.addClaim_route]
        omega
      · intro k c hc
        cases k with
        | zero =>
          obtain rfl := Option.some.inj hc
          exact ⟨rfl, ⟨e, he, rfl, rfl⟩, rfl, rfl, rfl, rfl, rfl, rfl, rfl⟩
        | succ k =>
          obtain ⟨hi, ⟨x, hx, hcell, hcrane⟩, hst, han, hfa, hhs, hyt, hht, hid⟩ := h3 k c (by simpa using hc)
          rw [State.addClaim_route] at hi hx
          rw [State.addClaim_claims] at hid
          dsimp only at hid
          exact ⟨by omega, ⟨x, by rw [← hx]; congr 1; omega, hcell, hcrane⟩, hst, han, hfa, hhs, hyt, hht, by omega⟩

/-- The checks of R36 that a start position passes. -/
theorem State.startRefusal_eq_none {s : State} {index offset : Nat} (h : s.startRefusal index offset = none) :
    s.route.state ≠ .empty ∧ ∃ e, s.route.entry? index = some e ∧ index ≤ 15 ∧ offset < e.length
      ∧ s.route.startOf index + offset + s.config.params.startUnc < s.route.total
      ∧ s.config.params.vehicleLength + s.config.params.startUnc ≤ s.route.startOf index + offset := by
  unfold State.startRefusal at h
  split at h
  · cases h
  next hr =>
    split at h
    · cases h
    next e he =>
      dsimp only at h
      split at h
      · cases h
      next hpos =>
        split at h
        · cases h
        next hrear =>
          simp only [not_or, Nat.not_lt, Nat.not_le] at hpos hrear
          exact ⟨hr, e, he, hpos.1, hpos.2.1, hpos.2.2, hrear⟩

/-- The bounds of a start position: the front bound lies 2·START_UNC and the vehicle length ahead of the
rear bound, which is on the route (R36, R37). -/
theorem State.start_bounds {s : State} (hu : s.config.params.startUnc ≤ 300) {index offset : Nat}
    (h : s.config.params.vehicleLength + s.config.params.startUnc ≤ s.route.startOf index + offset) :
    let t := s.setPos { s.pos with
      start := true, pos := some ⟨index, offset⟩, base := s.config.params.startUnc, sinceFix := 0, offRoute := 0 }
    ∃ rear : Nat, t.rear? = some (rear : Int)
      ∧ rear + s.config.params.vehicleLength + s.config.params.startUnc = s.route.startOf index + offset
      ∧ t.front? = some (s.route.startOf index + offset + s.config.params.startUnc) := by
  intro t
  have hu' : t.pos.u = s.config.params.startUnc := by
    rw [PositionUnit.u_of_sinceFix_zero rfl]
    exact Nat.min_eq_right hu
  refine ⟨s.route.startOf index + offset - s.config.params.vehicleLength - s.config.params.startUnc, ?_, by omega, ?_⟩
  · show some ((s.route.startOf index + offset : Nat) - (s.config.params.vehicleLength : Int) - (t.pos.u : Int)) = _
    rw [hu', Option.some_inj]
    omega
  · show some (s.route.startOf index + offset + t.pos.u) = _
    rw [hu']

theorem State.start_structured {s : State} (hs : s.Structured) {index offset : Nat}
    (hmode : s.ctl.mode = .listen) (hstart : s.pos.start = false) (h : s.startRefusal index offset = none) :
    (s.setPos { s.pos with
      start := true, pos := some ⟨index, offset⟩, base := s.config.params.startUnc
      sinceFix := 0, offRoute := 0 }).startClaims.Structured := by
  obtain ⟨-, e, he, -, hoff, -, hrear⟩ := State.startRefusal_eq_none h
  have hrange := hs.config.1.1
  have hu : s.config.params.startUnc ≤ 300 := (hrange .startUnc (by decide)).2
  have hv : s.config.params.vehicleLength ≤ 1600 := (hrange .vehicleLength (by decide)).2
  obtain ⟨rear, hr, hrv, hf⟩ := State.start_bounds hu hrear
  have hnil := (hs.waiting hstart).2
  obtain ⟨place, hplace, hentry⟩ := RouteStore.entry?_eq_some.mp he
  have hend := RouteStore.endOf_eq he
  have hholds : s.route.holds ⟨index, offset⟩ = true :=
    RouteStore.holds_iff.mpr ⟨place, e, hplace, hentry, .inl hoff⟩
  generalize ht : s.setPos { s.pos with
    start := true, pos := some ⟨index, offset⟩, base := s.config.params.startUnc
    sinceFix := 0, offRoute := 0 } = t at hr hf
  have hroute : t.route = s.route := by rw [← ht]; rfl
  have hclaims : t.claims = s.claims := by rw [← ht]; rfl
  have hpos : t.pos.start = true ∧ t.pos.pos = some ⟨index, offset⟩ ∧ t.pos.base ≤ 300 := by
    rw [← ht]; exact ⟨rfl, rfl, hu⟩
  have hmode' : t.ctl.mode = .listen := by rw [← ht]; exact hmode
  have hconf : t.config = s.config := by rw [← ht]; rfl
  have hfirst : t.Structured :=
    ⟨hconf ▸ hs.config, hroute ▸ hs.route, hroute ▸ hclaims ▸ hs.claimed,
      fun _ => by
        rw [hclaims, hnil]
        exact fun _ hc => absurd hc List.not_mem_nil,
      hpos.2.2, fun _ => ⟨_, hpos.2.1, hroute ▸ hholds⟩,
      fun hw => absurd (hpos.1.symm.trans hw) nofun⟩
  unfold State.startClaims
  rw [hr, hf]
  dsimp only
  rw [Int.toNat_natCast, hroute]
  split
  next i ei bi j ej bj hi hj =>
    obtain ⟨hie, rfl, hile, hilt⟩ := RouteStore.cellAt_eq_some.mp hi
    obtain ⟨hje, rfl, hjle, hjlt⟩ := RouteStore.cellAt_eq_some.mp hj
    obtain ⟨a, rfl, ha⟩ := RouteStore.entry?_eq_some.mp hie
    obtain ⟨b, rfl, hb⟩ := RouteStore.entry?_eq_some.mp hje
    have hal := (List.getElem?_eq_some_iff.mp ha).1
    have hbl := (List.getElem?_eq_some_iff.mp hb).1
    have hspan : b + 1 - a ≤ 9 := by
      refine Classical.byContradiction fun hlong => ?_
      have hge := hs.route.startOf_add_le (j := a + 1) (k := b - (a + 1)) (by omega)
      rw [show a + 1 + (b - (a + 1)) = b by omega] at hge
      have hsucc : s.route.endOf (s.route.first + a) = s.route.startOf (s.route.first + (a + 1)) := rfl
      omega
    obtain ⟨new, hnew, hlen, hspec⟩ := addStartClaims_spec (s.route.first + b + 1 - (s.route.first + a)) a t
    rw [hroute] at hnew hlen hspec
    rw [hclaims, hnil, List.nil_append] at hnew
    rw [hnew]
    have hretire : s.route.first + a - s.route.first = a := Nat.add_sub_cancel_left ..
    show State.Structured (State.setRoute _ { (t.setClaims _).route with entries := (t.setClaims _).route.entries.drop _ })
    rw [State.setClaims_route, hroute, hretire]
    have haok : a = 0 ∨ a < s.route.entries.length := .inr hal
    have hafirst := hs.route.retire_first (k := a) (by omega)
    refine ⟨hconf ▸ hs.config, hs.route.retire haok, ⟨?_, fun k c hk => ?_, ?_⟩, fun _ => ?_, hpos.2.2,
      fun _ => ⟨_, hpos.2.1, ?_⟩, fun hw => absurd (hpos.1.symm.trans hw) nofun⟩
    · show new.length ≤ 12
      omega
    · obtain ⟨hidx, ⟨x, hx, hcell, -⟩, -⟩ := hspec k c hk
      rw [State.setRoute_route]
      refine ⟨?_, x, ?_, hcell⟩
      · show c.index = (s.route.retire a).first + k
        rw [hafirst]
        omega
      · show (s.route.entries.drop a)[k]? = some x
        rw [List.getElem?_drop]
        exact hx
    · refine List.pairwise_iff_getElem.mpr fun x y hx hy _ => ?_
      obtain ⟨-, -, hst, -⟩ := hspec x _ (List.getElem?_eq_getElem hx)
      obtain ⟨-, -, hst', -⟩ := hspec y _ (List.getElem?_eq_getElem hy)
      exact Nat.le_of_eq (congrArg ClaimState.code (hst'.trans hst.symm))
    · intro c hc
      obtain ⟨k, hk⟩ := List.mem_iff_getElem?.mp hc
      rw [(hspec k c hk).2.2.1]
      decide
    · refine hs.route.retire_holds hholds haok (.inr ?_)
      rw [← s.route.startOf_first_add]
      show _ ≤ s.route.startOf index + offset
      omega
  next => exact hfirst

/-- What check 3 to 5 of R8 leave of an accepted block. -/
theorem State.blockRefusal_eq_none {s : State} {block : List RouteSlot} (h : s.blockRefusal block = none) :
    s.route.state ≠ .truncating ∧ realSlots block ≠ []
      ∧ (∀ x ∈ realSlots block, x.valid (s.classOf x.cell).craneSpot = true)
      ∧ ((realSlots block).map (·.cell)).Nodup
      ∧ (∀ x ∈ realSlots block, ∀ e ∈ s.route.entries, e.cell ≠ x.cell)
      ∧ s.route.entries.length + (realSlots block).length ≤ 64
      ∧ s.route.nextIndex + (realSlots block).length ≤ 65536 := by
  unfold State.blockRefusal at h
  dsimp only at h
  split at h
  · cases h
  next hr =>
    split at h
    · cases h
    next hblock =>
      split at h
      · cases h
      next hrep =>
        split at h
        · cases h
        next hfull =>
          simp only [Bool.or_eq_true, Bool.not_eq_true', not_or, Bool.not_eq_false, blockInOrder,
            Bool.and_eq_true, List.isEmpty_eq_false_iff, List.all_eq_true] at hblock
          simp only [Bool.or_eq_true, Bool.not_eq_true', not_or, Bool.not_eq_false, noRepeat_iff,
            List.any_eq_true, beq_iff_eq, not_exists, not_and] at hrep
          have hfull : ¬ (64 < s.route.entries.length + (realSlots block).length
            ∨ 65535 < s.route.nextIndex + (realSlots block).length - 1) := hfull
          exact ⟨hr, hblock.1.1, hblock.2, hrep.1, hrep.2, by omega, by omega⟩

theorem realSlots_cell {block : List RouteSlot} {x : RouteSlot} (h : x ∈ realSlots block) : x.cell ≠ noCell :=
  bne_iff_ne.mp (passes_of_mem_takeWhile (p := fun x : RouteSlot => x.cell != noCell) h)

/-- The route entry of a valid slot keeps to R4. -/
theorem RouteSlot.entry_ok {x : RouteSlot} {b : Bool} (h : x.valid b = true) :
    300 ≤ x.entry.length ∧ x.entry.length ≤ 3000 ∧ x.entry.stop.all (· < x.entry.length) = true := by
  unfold RouteSlot.valid at h
  simp only [Bool.and_eq_true, decide_eq_true_eq] at h
  obtain ⟨⟨⟨hlen, -⟩, hstop⟩, -⟩ := h
  refine ⟨hlen.1, hlen.2, ?_⟩
  show x.stop.all _ = true
  cases hx : x.stop with
  | none => rfl
  | some o =>
    rw [hx] at hstop
    exact hstop

theorem State.append_route_ok {s : State} (hs : s.route.ok) {block : List RouteSlot}
    (h : s.blockRefusal block = none) : (s.append block).route.ok := by
  obtain ⟨hr, hne, hvalid, hnd, hrep, hlen, hnext⟩ := State.blockRefusal_eq_none h
  obtain ⟨-, h2, -, h4, -, h6, h7⟩ := hs
  have hreal : 0 < (realSlots block).length := List.length_pos_iff.mpr hne
  have hlen' : (s.append block).route.entries.length = s.route.entries.length + (realSlots block).length := by
    show (s.route.entries ++ _).length = _
    rw [List.length_append, List.length_map]
  have hnil : (s.append block).route.entries ≠ [] := by
    rw [← List.length_pos_iff, hlen']
    omega
  refine ⟨by omega, ?_, hnext, ⟨fun he => ?_, fun he => absurd he hnil⟩, fun he => absurd he hnil, fun e he => ?_, ?_⟩
  · rw [hlen']
    exact Nat.add_le_add_right h2 _
  · have he : (if s.route.state = .empty then RouteState.active else s.route.state) = .empty := he
    split at he
    · cases he
    next hne' => exact absurd he hne'
  · obtain he | he := List.mem_append.mp he
    · exact h6 e he
    · obtain ⟨x, hx, rfl⟩ := List.mem_map.mp he
      exact ⟨realSlots_cell hx, RouteSlot.entry_ok (hvalid x hx)⟩
  · show ((s.route.entries ++ (realSlots block).map (·.entry)).map (·.cell)).Nodup
    rw [List.map_append, List.map_map, List.nodup_append]
    refine ⟨h7, hnd, ?_⟩
    intro a ha b hb heq
    obtain ⟨e, he, rfl⟩ := List.mem_map.mp ha
    obtain ⟨x, hx, rfl⟩ := List.mem_map.mp hb
    exact hrep x hx e he heq

/-- The entries appended leave the index of the first live entry. -/
theorem State.append_first {s : State} (hs : s.route.ok) (block : List RouteSlot) :
    (s.append block).route.first = s.route.first := by
  have := hs.2.1
  show s.route.nextIndex + (realSlots block).length - (s.route.entries ++ (realSlots block).map (·.entry)).length = _
  rw [List.length_append, List.length_map, Nat.add_sub_add_right]
  rfl

theorem State.append_structured {s : State} (hs : s.Structured) {block : List RouteSlot}
    (h : s.blockRefusal block = none) :
    ((s.append block).setPos { s.pos with pos := s.pos.pos.map (s.append block).route.carryOn }).Structured := by
  have hok := State.append_route_ok hs.route h
  have hfirst := State.append_first hs.route block
  refine ⟨hs.config, hok, ⟨hs.claimed.1, fun k c hk => ?_, hs.claimed.2.2⟩, hs.reserved, hs.base, fun hst => ?_,
    fun hst => ?_⟩
  · obtain ⟨hi, e, he, hcell⟩ := hs.claimed.2.1 k c hk
    refine ⟨?_, e, ?_, hcell⟩
    · show c.index = (s.append block).route.first + k
      rw [hfirst, hi]
    · show (s.route.entries ++ _)[k]? = some e
      rw [List.getElem?_append_left (List.getElem?_eq_some_iff.mp he).1, he]
  · obtain ⟨p, hp, hh⟩ := hs.started hst
    obtain ⟨k, e, hk, he, -⟩ := RouteStore.holds_iff.mp hh
    refine ⟨(s.append block).route.carryOn p, ?_, (hok.carryOn_spec (hk.trans (by rw [hfirst])) ?_).1⟩
    · show s.pos.pos.map _ = _
      rw [hp, Option.map_some]
    · show k < (s.route.entries ++ _).length
      rw [List.length_append]
      exact Nat.lt_add_right _ (List.getElem?_eq_some_iff.mp he).1
  · refine ⟨?_, (hs.waiting hst).2⟩
    show s.pos.pos.map _ = none
    rw [(hs.waiting hst).1, Option.map_none]

/-- A truncation keeps the rearmost claims: the cells of those behind one of them start before its own (R13). -/
theorem State.keptClaims_eq_take {s : State} (h : s.route.claimed s.claims.list) :
    ∃ n, s.keptClaims = s.claims.list.take n := by
  refine filter_eq_take (List.pairwise_iff_getElem.mpr fun i j hi hj hij hp => ?_)
  have hcode := List.pairwise_iff_getElem.mp h.2.2 i j hi hj hij
  have hidx := (h.2.1 i _ (List.getElem?_eq_getElem hi)).1
  have hjdx := (h.2.1 j _ (List.getElem?_eq_getElem hj)).1
  obtain ⟨hocc, hres⟩ := (ClaimState.code_le_iff _ _).mp hcode
  have hbefore : s.beyondCommit s.commit? s.claims.list[j] = false →
      s.beyondCommit s.commit? s.claims.list[i] = false := by
    unfold State.beyondCommit
    split
    · exact id
    · have := s.route.startOf_mono (i := s.claims.list[i].index) (j := s.claims.list[j].index) (by omega)
      rw [decide_eq_false_iff_not, decide_eq_false_iff_not]
      omega
  simp only [Bool.or_eq_true, Bool.and_eq_true, beq_iff_eq, Bool.not_eq_true'] at hp ⊢
  obtain hp | ⟨hp, hb⟩ := hp
  · exact .inl (hocc hp)
  · cases hst : s.claims.list[i].state with
    | tentative => exact absurd hst (hres (by rw [hp]; decide))
    | held => exact .inr ⟨rfl, hbefore hb⟩
    | occupied => exact .inl rfl

/-- The last entry a truncation keeps is live, and the kept claims stand on the entries up to it (R13). -/
theorem State.lastKept_spec {s : State} (h : s.route.claimed s.claims.list) (hne : s.route.entries ≠ []) :
    ∃ k, s.lastKept = s.route.first + k ∧ k < s.route.entries.length ∧ s.keptClaims.length ≤ k + 1 := by
  obtain ⟨n, hn⟩ := State.keptClaims_eq_take h
  have hkept : s.route.claimed s.keptClaims := hn ▸ h.take n
  have hlen := hkept.2.1.length_le
  have hpos := List.length_pos_iff.mpr hne
  unfold State.lastKept
  split
  next c hc =>
    have hlast := hkept.getLast_index hc
    have hkpos : 0 < s.keptClaims.length := by
      rw [List.length_pos_iff]
      intro hnil
      rw [hnil] at hc
      cases hc
    exact ⟨s.keptClaims.length - 1, by omega, by omega, by omega⟩
  next hc =>
    rw [List.getLast?_eq_none_iff] at hc
    exact ⟨0, rfl, hpos, by rw [hc]; exact Nat.zero_le _⟩

theorem State.truncate_structured {s : State} (hs : s.Structured) (hr : s.route.state = .active)
    (hstart : s.pos.start = true) : s.truncate.Structured := by
  have hne : s.route.entries ≠ [] := by
    intro hnil
    have := hs.route.2.2.2.1.mpr hnil
    rw [hr] at this
    cases this
  obtain ⟨n, hn⟩ := State.keptClaims_eq_take hs.claimed
  have hkept : s.route.claimed s.keptClaims := hn ▸ hs.claimed.take n
  obtain ⟨k, hlast, hk, hklen⟩ := State.lastKept_spec hs.claimed hne
  obtain ⟨p, hp, hh⟩ := hs.started hstart
  have hfirst := hs.route.first_add
  have hplace : s.lastKept + 1 - s.route.first = k + 1 := by omega
  have hentries : s.truncate.route.entries = s.route.entries.take (k + 1) := by
    show s.route.entries.take (s.lastKept + 1 - s.route.first) = _
    rw [hplace]
  have hlen : s.truncate.route.entries.length = k + 1 := by
    rw [hentries, List.length_take]
    omega
  have hnext : s.truncate.route.nextIndex = s.route.first + (k + 1) := by
    show s.route.first + (s.route.entries.take (s.lastKept + 1 - s.route.first)).length = _
    rw [hplace, List.length_take]
    omega
  have hfirst' : s.truncate.route.first = s.route.first := by
    rw [RouteStore.first, hnext, hlen]
    omega
  have hget {j : Nat} (hj : j ≤ k) : s.truncate.route.entries[j]? = s.route.entries[j]? := by
    rw [hentries, List.getElem?_take, if_pos (by omega)]
  obtain ⟨h1, h2, h3, -, -, h6, h7⟩ := hs.route
  have hnil : s.truncate.route.entries ≠ [] := by
    rw [← List.length_pos_iff, hlen]
    omega
  refine ⟨hs.config, ⟨by omega, by omega, by omega, ⟨nofun, fun h => absurd h hnil⟩, fun h => absurd h hnil,
      fun e he => h6 e (List.mem_of_mem_take (hentries ▸ he)), ?_⟩, ⟨hkept.1, fun j c hj => ?_, hkept.2.2⟩,
      fun hm => (hs.reserved hm).sublist List.filter_sublist, hs.base, fun _ => ?_, fun hst => ?_⟩
  · rw [hentries]
    exact h7.sublist ((List.take_sublist _ _).map _)
  · obtain ⟨hi, e, he, hcell⟩ := hkept.2.1 j c hj
    have hjlt : j < s.keptClaims.length := (List.getElem?_eq_some_iff.mp hj).1
    exact ⟨by rw [hfirst', hi], e, (hget (by omega)).trans he, hcell⟩
  · have hplaced : s.truncate.pos.pos = some (if s.lastKept < p.index then
        ⟨s.lastKept, s.route.distance p - s.route.startOf s.lastKept⟩ else p) := by
      show s.placedPosition s.lastKept = _
      rw [State.placedPosition, hp, Option.map_some]
    refine ⟨_, hplaced, RouteStore.holds_iff.mpr ?_⟩
    rw [hfirst', hnext]
    split
    next hlt =>
      exact ⟨k, _, hlast, (hget (Nat.le_refl k)).trans (List.getElem?_eq_getElem hk), .inr (by dsimp only; omega)⟩
    next hge =>
      obtain ⟨j, e, hj, he, hoff⟩ := RouteStore.holds_iff.mp hh
      exact ⟨j, e, hj, (hget (by omega)).trans he, hoff.imp_right fun h => by omega⟩
  · exact absurd (hstart.symm.trans hst) nofun

/-- Releasing a stop point changes no entry but in its released mark (R17). -/
theorem releaseFirst_spec (es : List RouteEntry) :
    InPlace (fun e e' => e' = e ∨ e' = { e with released := true }) es (releaseFirst es) := by
  induction es with
  | nil => exact .nil
  | cons e es ih =>
    unfold releaseFirst
    split
    · exact .cons (.inr rfl) (InPlace.refl (fun _ => .inl rfl) es)
    · exact .cons (.inl rfl) ih

/-- An entry whose stop point may have been released is the same in place, length, cell and stop point. -/
theorem releaseFirst_getElem? {es : List RouteEntry} {k : Nat} {e : RouteEntry} (h : es[k]? = some e) :
    ∃ b, (releaseFirst es)[k]? = some { e with released := b } := by
  obtain ⟨hlt, rfl⟩ := List.getElem?_eq_some_iff.mp h
  have hf := releaseFirst_spec es
  have hlt' : k < (releaseFirst es).length := hf.length_eq ▸ hlt
  have := hf.get hlt hlt'
  rw [List.getElem?_eq_getElem hlt']
  obtain h | h := this
  · exact ⟨_, by rw [h]⟩
  · exact ⟨_, by rw [h]⟩

theorem releaseFirst_map {β : Type} {f : RouteEntry → β} (hf : ∀ e, f { e with released := true } = f e)
    (es : List RouteEntry) : (releaseFirst es).map f = es.map f :=
  InPlace.map_eq (fun a b h => h.elim (fun h => by rw [h]) fun h => by rw [h, hf]) (releaseFirst_spec es)

theorem State.releaseStop_structured {s : State} (hs : s.Structured) :
    (s.setRoute { s.route with entries := releaseFirst s.route.entries }).Structured := by
  have hlen : (releaseFirst s.route.entries).length = s.route.entries.length := (releaseFirst_spec _).length_eq.symm
  have hnil : releaseFirst s.route.entries = [] ↔ s.route.entries = [] := by
    rw [← List.length_eq_zero_iff, hlen, List.length_eq_zero_iff]
  have hfirst : ({ s.route with entries := releaseFirst s.route.entries } : RouteStore).first = s.route.first := by
    rw [RouteStore.first, RouteStore.first, hlen]
  obtain ⟨h1, h2, h3, h4, h5, h6, h7⟩ := hs.route
  refine ⟨hs.config, ⟨by rw [State.setRoute_route, hlen]; exact h1, by rw [State.setRoute_route, hlen]; exact h2, h3,
    h4.trans hnil.symm, fun h => h5 (hnil.mp h), fun e he => ?_, ?_⟩,
    ⟨hs.claimed.1, fun k c hk => ?_, hs.claimed.2.2⟩, hs.reserved, hs.base, fun hst => ?_, hs.waiting⟩
  · have hmem : (e.cell, e.length, e.stop) ∈ (releaseFirst s.route.entries).map fun e => (e.cell, e.length, e.stop) :=
      List.mem_map_of_mem he
    rw [releaseFirst_map fun _ => rfl] at hmem
    obtain ⟨x, hx, heq⟩ := List.mem_map.mp hmem
    obtain ⟨hc, hl, hs⟩ := Prod.mk.inj heq |>.imp id Prod.mk.inj
    rw [← hc, ← hl, ← hs]
    exact h6 x hx
  · rw [State.setRoute_route, releaseFirst_map fun _ => rfl]
    exact h7
  · obtain ⟨hi, e, he, hcell⟩ := hs.claimed.2.1 k c hk
    obtain ⟨b, hb⟩ := releaseFirst_getElem? he
    exact ⟨by rw [State.setRoute_route, hfirst, hi], _, hb, hcell⟩
  · obtain ⟨p, hp, hh⟩ := hs.started hst
    obtain ⟨k, e, hk, he, hoff⟩ := RouteStore.holds_iff.mp hh
    obtain ⟨b, hb⟩ := releaseFirst_getElem? he
    exact ⟨p, hp, RouteStore.holds_iff.mpr ⟨k, _, by rw [State.setRoute_route, hfirst, hk], hb, hoff⟩⟩

theorem State.LayoutEdit.structured {s t : State} (h : s.LayoutEdit t) (hs : s.Structured) : t.Structured := by
  cases h with
  | release => exact State.release_structured hs
  | start index offset hmode hstart h => exact State.start_structured hs hmode hstart h
  | append block payload hblock h => exact State.append_structured hs h
  | truncate hr hst => exact State.truncate_structured hs hr hst
  | clearRoute hst =>
    obtain ⟨hp, hl⟩ := hs.waiting hst
    refine ⟨hs.config, RouteStore.reset_ok, ?_, hs.reserved, hs.base, fun h => absurd (h.symm.trans hst) nofun, hs.waiting⟩
    show RouteStore.claimed _ s.claims.list
    rw [hl]
    exact RouteStore.claimed_nil _
  | releaseStop => exact State.releaseStop_structured hs
  | truncated h =>
    obtain ⟨h1, h2, h3, h4, h5, h6, h7⟩ := hs.route
    have hne : s.route.entries ≠ [] := fun hnil => by
      have := h4.mpr hnil
      rw [h] at this
      cases this
    exact ⟨hs.config, ⟨h1, h2, h3, ⟨nofun, fun he => absurd he hne⟩, h5, h6, h7⟩, hs.claimed, hs.reserved, hs.base,
      hs.started, hs.waiting⟩

/-! ### Stages and moves -/

theorem State.Edit.structured {s t : State} (h : s.Edit t) (hs : s.Structured) : t.Structured := by
  have same := hs
  obtain ⟨h1, h2, h3, h4, h5, h6, h7⟩ := hs
  cases h with
  | link => exact ⟨h1, h2, h3, h4, h5, h6, h7⟩
  | claims h => exact h.structured same
  | pos h => exact h.structured same
  | peers => exact ⟨h1, h2, h3, h4, h5, h6, h7⟩
  | auth => exact ⟨h1, h2, h3, h4, h5, h6, h7⟩
  | beacon => exact ⟨h1, h2, h3, h4, h5, h6, h7⟩
  | ctl h => exact ⟨h1, h2, h3, fun hm => h4 (h.mode_line.1 ▸ hm), h5, h6, h7⟩
  | config hm h => exact ⟨h.ok h1, h2, h3, h4, h5, h6, h7⟩
  | loadOver => exact ⟨h1, h2, h3, h4, h5, h6, h7⟩
  | layout h => exact h.structured same

/-- A change of the mode with a drop of the claims after some claim. -/
theorem State.Structured.drop {s t : State} (hs : s.Structured) (hconf : t.config = s.config)
    (hroute : t.route = s.route) (hpos : t.pos = s.pos) {p : Claim → Bool} (hl : t.claims.list = s.claims.list.filter p)
    (hp : s.claims.list.Pairwise fun a b => p b = true → p a = true) (hr : ∀ c, p c = true → c.state ≠ .tentative) :
    t.Structured := by
  refine ⟨hconf ▸ hs.config, hroute ▸ hs.route, ?_, fun _ c hc => ?_, hpos ▸ hs.base, ?_, ?_⟩
  · rw [hroute, hl]
    exact hs.claimed.filter hp
  · rw [hl] at hc
    exact hr c (List.mem_filter.mp hc).2
  · rw [hpos, hroute]
    exact hs.started
  · rw [hpos, hl]
    exact fun h => ⟨(hs.waiting h).1, by rw [(hs.waiting h).2]; rfl⟩

theorem Work.enterStopped_structured {w : Work} (hs : w.s.Structured) : w.enterStopped.s.Structured := by
  obtain ⟨l, he, -⟩ := w.enterStopped_spec
  refine hs.drop (p := fun c => c.state != .tentative) (by rw [he]; rfl) (by rw [he]; rfl) (by rw [he]; rfl)
    (by rw [he]; rfl) hs.claimed.2.2.reserved fun c hc => bne_iff_ne.mp hc

theorem State.recordCause_structured {s : State} (hs : s.Structured) (c : Cause) : (s.recordCause c).Structured := by
  have hm := s.recordCause_mode c
  obtain ⟨h1, h2, h3, h4, h5, h6, h7⟩ := hs
  have he := s.recordCause_eq c
  refine ⟨by rw [he]; exact h1, by rw [he]; exact h2, by rw [he]; exact h3, ?_, by rw [he]; exact h5, by rw [he]; exact h6,
    by rw [he]; exact h7⟩
  rw [hm, s.recordCause_claims c]
  exact h4

theorem Work.Stage.structured {w w' : Work} (h : w.Stage w') (hl : w.s.loadOk) (hs : w.s.Structured) :
    w'.s.Structured := by
  cases h with
  | edit h => exact h.structured hs
  | owe he => rw [he]; exact hs
  | stop => exact Work.enterStopped_structured hs
  | stopFor c =>
    exact Work.enterStopped_structured (w := w.on (·.recordCause c)) (State.recordCause_structured hs c)
  | serve =>
    obtain ⟨h1, h2, h3, h4, h5, h6, h7⟩ := hs
    have served : State.Structured ((w.s.setMode .serving).setAuth { (w.s.setMode .serving).auth with overrun := false }) :=
      ⟨h1, h2, h3, fun hm => absurd rfl hm, h5, h6, h7⟩
    have := (State.ClaimEdit.claimAhead (s := (w.s.setMode .serving).setAuth
      { (w.s.setMode .serving).auth with overrun := false })).structured served
    rw [← State.claimAhead_eq] at this
    exact this
  | park =>
    exact hs.drop (p := fun c => c.state == .occupied) rfl rfl rfl rfl hs.claimed.2.2.occupied
      fun c hc => by rw [beq_iff_eq.mp hc]; decide
  | relisten hm => exact ⟨hs.config, hs.route, hs.claimed, fun _ => hs.reserved (by rw [hm]; decide), hs.base, hs.started, hs.waiting⟩
  | @load c hload hc rate =>
    have hm := hs.reserved (by rw [hl hload]; decide)
    obtain ⟨h1, h2, h3, -, h5, h6, h7⟩ := hs
    have he := w.s.configured_eq c rate
    have hconf : (w.s.configured c rate).config.ok := by
      rw [State.configured_config]
      exact hc.ok h1
    have hroute : (w.s.configured c rate).route = w.s.route := by rw [he]; rfl
    have hclaims : (w.s.configured c rate).claims = w.s.claims := by rw [he]; rfl
    have hpos : (w.s.configured c rate).pos = w.s.pos := by rw [he]; rfl
    exact ⟨hconf, hroute ▸ h2, hroute ▸ hclaims ▸ h3, fun _ => hclaims ▸ hm, hpos ▸ h5, hroute ▸ hpos ▸ h6,
      hclaims ▸ hpos ▸ h7⟩

theorem State.Move.structured {s t : State} (h : s.Move t) (hs : s.loadOk ∧ s.Structured) :
    t.loadOk ∧ t.Structured := by
  have stage : ∀ w w' : Work, w.s.held = false → w.Stage w' → w.s.loadOk ∧ w.s.Structured →
      w'.s.loadOk ∧ w'.s.Structured := fun _ _ _ hst hw => ⟨hst.loadOk hw.1, hst.structured hw.1 hw.2⟩
  have link : ∀ s l, State.loadOk s ∧ State.Structured s → (State.setLink s l).loadOk ∧ (State.setLink s l).Structured :=
    fun s l ⟨h0, h1, h2, h3, h4, h5, h6, h7⟩ => ⟨h0, h1, h2, h3, h4, h5, h6, h7⟩
  have ⟨h0, h1, h2, h3, h4, h5, h6, h7⟩ := hs
  cases h with
  | reset =>
    exact ⟨fun _ => rfl, State.resetBlocks_config_ok _ _, RouteStore.reset_ok, RouteStore.claimed_nil _,
      fun _ _ hc => absurd hc List.not_mem_nil, Nat.zero_le _, nofun, fun _ => ⟨rfl, rfl⟩⟩
  | transmit => obtain ⟨l, he⟩ := s.transmit_link; rw [he]; exact link s l hs
  | issuePending => obtain ⟨l, he⟩ := s.issuePending_eq; rw [he]; exact link s l hs
  | makeStale k => rw [s.makeStale_eq]; exact ⟨h0, h1, h2, h3, h4, h5, h6, h7⟩
  | event before v hh h =>
    exact State.Move.event_keeps (P := fun x => x.loadOk ∧ x.Structured) link stage hh h before v hs
  | answer before type code result hh hr h =>
    exact State.Move.answer_keeps (P := fun x => x.loadOk ∧ x.Structured) link stage hh h before type code result hs
  | _ => exact ⟨h0, h1, h2, h3, h4, h5, h6, h7⟩

/-- Settles O13: claims are made only in front of the last one and dropped only from the front or, with the
entries they stand on, from the rear; and the position is carried onto live entries. -/
theorem routeClaimsPositionAgree : Obligations.RouteClaimsPositionAgree := by
  intro s t hl hs h
  obtain ⟨hload, hstr⟩ := step_keeps (P := fun x => x.loadOk ∧ x.Structured)
    (fun _ _ _ _ ⟨h0, h1, h2, h3, h4, h5, h6, h7⟩ => ⟨h0, h1, h2, h3, h4, h5, h6, h7⟩) (fun _ _ hm => hm.structured) h
    ⟨hl, State.structureOk_iff.mp hs⟩
  exact ⟨hload, State.structureOk_iff.mpr hstr⟩

end Sys2Proof.Machine

/-!
PROOF. What an event is from outside: a request that is taken, an event that changes no claims and owes
nothing, what its end adds to the Drive Link Unit, the recomputation case by case, and a raised cause.
-/

namespace Sys2Proof.Machine

/-! ### What only a command of its own changes -/

/-- The blocks that neither a recomputation nor a raise touches, with what lies outside an event. -/
def State.body (s : State) := (s.route, s.pos, s.peers, s.beacon, s.config, s.outside)

theorem State.body_eq_iff {s t : State} : t.body = s.body ↔ t.route = s.route ∧ t.pos = s.pos
    ∧ t.peers = s.peers ∧ t.beacon = s.beacon ∧ t.config = s.config ∧ s.sameOutside t := by
  simp only [State.body, Prod.mk.injEq, State.outside_eq_iff]

theorem State.front_of_body {s t : State} (h : t.body = s.body) : t.front? = s.front? := by
  obtain ⟨hr, hp, -⟩ := State.body_eq_iff.mp h
  rw [State.front?, State.front?, hr, hp]

theorem State.claimAhead_body (s : State) : s.claimAhead.body = s.body := by
  rw [s.claimAhead_eq]
  rfl

theorem State.evaluatePromotion_body (s : State) : s.evaluatePromotion.body = s.body := by
  obtain ⟨k, h⟩ := s.evaluatePromotion_claims
  rw [h]
  rfl

theorem State.recordCause_body (s : State) (c : Cause) : (s.recordCause c).body = s.body := by
  rw [s.recordCause_eq]
  rfl

theorem Work.enterStopped_body (w : Work) : w.enterStopped.s.body = w.s.body := by
  obtain ⟨l, h, -⟩ := w.enterStopped_spec
  rw [h]
  rfl

theorem Work.enterServing_body (w : Work) : w.enterServing.s.body = w.s.body :=
  State.claimAhead_body _

theorem Work.listenExit_body (w : Work) : w.listenExit.s.body = w.s.body := by
  obtain h | h | h := w.listenExit_cases
  · rw [h]
  · rw [h, w.enterStopped_body]
  · rw [h, w.enterServing_body]

theorem Work.raise_body (w : Work) (c : Cause) : (w.raise c).s.body = w.s.body := by
  have recorded : (w.on (·.recordCause c)).s.body = w.s.body := w.s.recordCause_body c
  obtain h | h | h := w.raise_cases c
  · rw [h, recorded]
  · rw [h, Work.listenExit_body, recorded]
  · rw [h, Work.enterStopped_body, recorded]

theorem Work.raiseOverrun_body (w : Work) : w.raiseOverrun.s.body = w.s.body := Work.raise_body _ _

theorem Work.recomputeNow_body (w : Work) : w.recomputeNow.s.body = w.s.body := by
  have check (w : Work) : (if w.compute.s.overruns then w.compute.raiseOverrun.compute else w.compute).s.body
      = w.s.body := by
    split
    · exact Work.raiseOverrun_body _
    · rfl
  unfold Work.recomputeNow
  dsimp only
  split
  · exact (check _).trans w.raiseOverrun_body
  · exact check w

theorem Work.settle_body (w : Work) (before : State) : (w.settle before).s.body = w.s.body := by
  unfold Work.settle
  split
  · exact w.recomputeNow_body
  · rfl

/-! ### Taking a request (R156, R157) -/

/-- The state with its oldest request taken. -/
def State.taken (s : State) : State := s.setLink { s.link with intake := s.link.intake.tail }

theorem State.takeRequest_ready {s : State} {f : Frame} (h : s.readyFor f) : s.takeRequest f = some s.taken := by
  obtain ⟨-, hw, hi, -⟩ := h
  obtain ⟨rest, hi⟩ := List.head?_eq_some_iff.mp hi
  unfold State.takeRequest
  rw [if_neg (by rw [hw]; decide), hi]
  dsimp only
  rw [if_pos rfl, State.taken, hi, List.tail_cons]

theorem State.taken_complete {s : State} {f : Frame} (h : s.readyFor f) : s.taken.noticesComplete := h.2.2.2

/-- A taken request that passes the checks of R157 does its own work. -/
theorem State.request_ready {s : State} {type : Byte} {n : Nat} {payload : List Byte} {f : Work → Answer}
    (h : s.readyFor ⟨type, payload⟩) (hm : s.ctl.mode ≠ .init) (hn : payload.length = n) :
    s.request type n payload f = s.taken.answered type f := by
  unfold State.request
  rw [if_neg (by rw [h.1]; decide), State.takeRequest_ready h]
  dsimp only
  refine congrArg (State.answered _ _) (funext fun w => ?_)
  rw [if_neg fun hi => hm hi.1, if_neg (Classical.not_not.mpr hn)]

/-! ### Events that owe nothing -/

theorem OutItem.complete_of_isComplete {x : OutItem} (m : Mode) (h : x.isComplete = true) : x.complete m = x := by
  unfold OutItem.complete
  split
  · cases h
  · rfl

theorem State.completeNotices_of_complete {s : State} (h : s.noticesComplete) : s.completeNotices = s := by
  have hmap : s.link.outgoing.map (·.complete s.ctl.mode) = s.link.outgoing :=
    (List.map_congr_left fun x hx =>
      OutItem.complete_of_isComplete _ (List.all_eq_true.mp h x hx)).trans (List.map_id _)
  unfold State.completeNotices
  rw [hmap]
  rfl

/-- A work that owes nothing, with the claims as they were, is settled as it is. -/
theorem Work.settle_begin {s t : State} (h : t.claimView = s.claimView) :
    (Work.begin t).settle s = Work.begin t := by
  refine if_neg ?_
  rw [Work.owes, Work.begin, h]
  simp

theorem State.event_plain {s t : State} {f : Work → Work} (hf : f (Work.begin s) = Work.begin t)
    (hv : t.claimView = s.claimView) (hc : t.noticesComplete) : s.event f = t.transmit := by
  show (Work.close (Work.settle s (f (Work.begin s)))).transmit = _
  rw [hf, Work.settle_begin hv]
  exact congrArg State.transmit (State.completeNotices_of_complete hc)

theorem State.answered_plain {s t : State} {type : Byte} {code : ResultCode} {result : List Byte}
    {f : Work → Answer} (hf : f (Work.begin s) = ⟨Work.begin t, code, result⟩)
    (hv : t.claimView = s.claimView) (hc : t.noticesComplete) :
    s.answered type f = (t.respond type code result).transmit := by
  show ((Work.close (Work.settle s (f (Work.begin s)).work)).respond type (f (Work.begin s)).code
    (f (Work.begin s)).result).transmit = _
  rw [hf]
  dsimp only
  rw [Work.settle_begin hv]
  exact congrArg (fun x => (State.respond x type code result).transmit) (State.completeNotices_of_complete hc)

/-- A request that is taken and answered with nothing changed. -/
theorem State.answered_refused {s : State} {type : Byte} {payload : List Byte} {code : ResultCode}
    {result : List Byte} {f : Work → Answer} (h : s.readyFor ⟨type, payload⟩)
    (hf : f (Work.begin s.taken) = ⟨Work.begin s.taken, code, result⟩) :
    s.taken.answered type f = s.replied type code result :=
  State.answered_plain hf rfl (State.taken_complete h)

theorem State.ifDue_of_due {s : State} {due : Bool} (f : State → State) (hh : s.held = false)
    (hd : due = true) : s.ifDue due f = f s := if_pos ⟨hh, hd⟩

theorem State.ifDue_of_not_due {s : State} {due : Bool} (f : State → State) (hd : due = false) :
    s.ifDue due f = s := if_neg fun h => absurd (h.2.symm.trans hd) nofun

/-! ### The end of an event on the link (R159, R164, R165) -/

/-- What the end of an event leaves of the state that its work has made. -/
structure State.Closes (s t : State) : Prop where
  rest : t = s.setLink t.link
  counters : t.link.counters = s.link.counters
  latched : t.link.latched = s.link.latched
  authTimer : t.link.authTimer = s.link.authTimer
  outstanding : s.ctl.mode ≠ .serving → s.link.outstanding = [] → t.link.outstanding = []
  pending : s.ctl.mode ≠ .serving → t.link.pendingIssue = s.link.pendingIssue
  notices : ∀ x ∈ s.link.outgoing, x.isNotice = true → x.complete s.ctl.mode ∈ t.link.order

theorem OutItem.mem_dropLast_of_notice {xs : List OutItem} {x : OutItem} {m : AuthorityMessage}
    (h : xs.getLast? = some (.authority m)) (hx : x ∈ xs) (hn : x.isNotice = true) : x ∈ xs.dropLast := by
  obtain ⟨ys, rfl⟩ := List.getLast?_eq_some_iff.mp h
  rw [List.dropLast_concat]
  obtain hy | hy := List.mem_append.mp hx
  · exact hy
  · rw [List.mem_singleton.mp hy] at hn
    cases hn

theorem DriveLink.withdraw_notice {l : DriveLink} {x : OutItem} (hx : x ∈ l.outgoing) (hn : x.isNotice = true) :
    x ∈ l.withdraw.outgoing := by
  obtain ⟨m, hm, h⟩ | ⟨-, h⟩ := l.withdraw_cases
  · rw [h]
    exact OutItem.mem_dropLast_of_notice hm hx hn
  · rwa [h]

/-- Withdrawal leaves all but the order and the outstanding list. -/
theorem DriveLink.withdraw_eq (l : DriveLink) :
    l.withdraw = { l with outgoing := l.withdraw.outgoing, outstanding := l.withdraw.outstanding } := by
  obtain ⟨m, -, h⟩ | ⟨-, h⟩ := l.withdraw_cases <;> rw [h]

theorem DriveLink.withdraw_outstanding_nil {l : DriveLink} (h : l.outstanding = []) :
    l.withdraw.outstanding = [] := by
  obtain ⟨m, -, hw⟩ | ⟨-, hw⟩ := l.withdraw_cases
  · rw [hw, h]
    rfl
  · rwa [hw]

theorem State.issueAuthority_of_not_serving {s : State} (h : s.ctl.mode ≠ .serving) :
    s.issueAuthority = s.setLink (s.link.issued s.authorityMessage) := by
  unfold State.issueAuthority
  dsimp only
  rw [if_neg h, DriveLink.issued, s.link.withdraw_eq]

/-- An issue adds at most a message behind what is left of the order. -/
theorem State.issueAuthority_link_cases (s : State) :
    s.issueAuthority = s.setLink { s.link with
        outgoing := s.link.withdraw.outgoing ++ [.authority s.authorityMessage]
        outstanding := if s.ctl.mode = .serving then s.link.withdraw.outstanding ++ [⟨s.link.authSeq, s.now⟩]
          else s.link.withdraw.outstanding
        authSeq := s.link.authSeq + 1 }
      ∨ s.ctl.mode = .serving ∧ s.issueAuthority = s.setLink { s.link with
        outgoing := s.link.withdraw.outgoing
        outstanding := s.link.withdraw.outstanding
        pendingIssue := true } := by
  unfold State.issueAuthority
  dsimp only
  split
  next hm =>
    split
    · refine .inl ?_
      rw [s.link.withdraw_eq]
    · refine .inr ⟨hm, ?_⟩
      rw [s.link.withdraw_eq]
  · refine .inl ?_
    rw [s.link.withdraw_eq]

theorem State.completeNotices_closes (s : State) : s.Closes s.completeNotices where
  rest := rfl
  counters := rfl
  latched := rfl
  authTimer := rfl
  outstanding := fun _ h => h
  pending := fun _ => rfl
  notices := fun _ hx _ => List.mem_append_right _ (List.mem_map_of_mem hx)

theorem Work.close_closes (w : Work) : w.s.Closes w.close := by
  unfold Work.close
  split
  · obtain h | ⟨hs, h⟩ := w.s.issueAuthority_link_cases
    · rw [h]
      refine ⟨rfl, rfl, rfl, rfl, fun hm h0 => ?_, fun _ => rfl, fun x hx hn => ?_⟩
      · show (if _ then _ else _) = _
        rw [if_neg hm]
        exact DriveLink.withdraw_outstanding_nil h0
      · exact List.mem_append_right _ (List.mem_map_of_mem
          (List.mem_append_left _ (DriveLink.withdraw_notice hx hn)))
    · rw [h]
      exact ⟨rfl, rfl, rfl, rfl, fun hm => absurd hs hm, fun hm => absurd hs hm, fun x hx hn =>
        List.mem_append_right _ (List.mem_map_of_mem (DriveLink.withdraw_notice hx hn))⟩
  · exact w.s.completeNotices_closes

section
variable {s t : State}

theorem State.Closes.transmit (h : s.Closes t) : s.Closes t.transmit := by
  have horder := t.transmit_order
  obtain he | ⟨x, xs, -, -, -, -, he⟩ := t.transmit_cases
  · rwa [he]
  · have hn : ∀ x ∈ s.link.outgoing, x.isNotice = true → x.complete s.ctl.mode ∈ t.transmit.link.order := by
      rw [horder]
      exact h.notices
    rw [he] at hn ⊢
    exact ⟨by rw [h.rest]; rfl, h.counters, h.latched, h.authTimer, h.outstanding, h.pending, hn⟩

theorem State.Closes.respond (h : s.Closes t) (type : Byte) (code : ResultCode) (result : List Byte) :
    s.Closes (t.respond type code result) where
  rest := by rw [h.rest]; rfl
  counters := h.counters
  latched := h.latched
  authTimer := h.authTimer
  outstanding := h.outstanding
  pending := h.pending
  notices := fun x hx hn => by
    show _ ∈ t.link.transmitting.toList ++ (t.link.outgoing ++ _)
    rw [← List.append_assoc]
    exact List.mem_append_left _ (h.notices x hx hn)

theorem State.Closes.body (h : s.Closes t) : t.body = s.body := by rw [h.rest]; rfl
theorem State.Closes.ctl (h : s.Closes t) : t.ctl = s.ctl := by rw [h.rest]; rfl
theorem State.Closes.auth (h : s.Closes t) : t.auth = s.auth := by rw [h.rest]; rfl
theorem State.Closes.claims (h : s.Closes t) : t.claims = s.claims := by rw [h.rest]; rfl
theorem State.Closes.reserved (h : s.Closes t) : t.reserved = s.reserved := by
  rw [State.reserved, h.claims]
  rfl

end

theorem State.event_closes (s : State) (f : Work → Work) :
    ((f (Work.begin s)).settle s).s.Closes (s.event f) := (Work.close_closes _).transmit

theorem State.answered_closes (s : State) (type : Byte) (f : Work → Answer) :
    ((f (Work.begin s)).work.settle s).s.Closes (s.answered type f) :=
  ((Work.close_closes _).respond _ _ _).transmit

theorem State.transmit_lastResult (s : State) : s.transmit.link.lastResult = s.link.lastResult := by
  obtain h | ⟨x, xs, -, -, -, -, h⟩ := s.transmit_cases <;> rw [h]
  rfl

theorem State.answered_lastResult (s : State) (type : Byte) (f : Work → Answer) :
    (s.answered type f).link.lastResult = some (type, (f (Work.begin s)).code) :=
  State.transmit_lastResult _

/-! ### The recomputation (R107, R115 to R117) -/

theorem State.computeAuthority_of_not_serving {s : State} (h : s.ctl.mode ≠ .serving) :
    s.computeAuthority = (s.restingAuthority, false) := by
  unfold State.computeAuthority State.restingAuthority
  cases s.front? with
  | none =>
    show (_, s.ctl.mode == .serving) = _
    rw [beq_false_of_ne h]
    rfl
  | some front =>
    dsimp only
    rw [if_pos h]
    rfl

/-- The front bound lies in no own claim, nor at the start of a live entry (R108). -/
theorem State.usableRun_eq_none_iff {s : State} {front : Nat} : s.usableRun front = none ↔
    ∀ i e b, s.route.cellAt front = some (i, e, b) → claimsFrom i s.claims.list = [] ∧ b ≠ front := by
  unfold State.usableRun
  split
  next h => exact ⟨fun _ i e b hc => absurd (h.symm.trans hc) nofun, fun _ => rfl⟩
  next i e b h =>
    have only : ∀ i' e' b', s.route.cellAt front = some (i', e', b') → i = i' ∧ b = b' := fun i' e' b' hc => by
      cases h.symm.trans hc
      exact ⟨rfl, rfl⟩
    split
    next c cs hc =>
      refine ⟨fun hn => absurd hn (by split <;> nofun), fun hn => absurd (hc.symm.trans (hn i e b h).1) nofun⟩
    next hc =>
      split
      next hb => exact ⟨nofun, fun hn => absurd hb (hn i e b h).2⟩
      next hb =>
        refine ⟨fun _ i' e' b' hc' => ?_, fun _ => rfl⟩
        obtain ⟨rfl, rfl⟩ := only i' e' b' hc'
        exact ⟨hc, hb⟩

theorem State.computeAuthority_outside_iff {s : State} : s.computeAuthority.2 = true ↔
    s.ctl.mode = .serving ∧ ∀ front, s.front? = some front →
      ∀ i e b, s.route.cellAt front = some (i, e, b) → claimsFrom i s.claims.list = [] ∧ b ≠ front := by
  unfold State.computeAuthority
  split
  next h => exact ⟨fun hm => ⟨beq_iff_eq.mp hm, fun _ hf => absurd (h.symm.trans hf) nofun⟩,
    fun hm => beq_iff_eq.mpr hm.1⟩
  next front h =>
    split
    next hm => exact ⟨nofun, fun hs => absurd hs.1 hm⟩
    next hm =>
      have hm := Classical.not_not.mp hm
      split
      next run i e b hr hc =>
        refine ⟨nofun, fun hs => ?_⟩
        rw [State.usableRun_eq_none_iff.mpr (hs.2 front h)] at hr
        cases hr
      next hn =>
        refine ⟨fun _ => ⟨hm, fun f hf => ?_⟩, fun _ => rfl⟩
        cases h.symm.trans hf
        refine State.usableRun_eq_none_iff.mp ?_
        cases hr : s.usableRun front with
        | none => rfl
        | some run =>
          cases hc : s.route.cellAt front with
          | none => rw [State.usableRun, hc] at hr; cases hr
          | some y => exact absurd hc (hn run y.1 y.2.1 y.2.2 hr)

/-- A carrier at the reported speed can stop within the authority computed (R115). -/
def State.fits (s : State) : Prop :=
  s.computeAuthority.2 = false ∧ s.config.params.stopping s.pos.speed ≤ s.computeAuthority.1.length

theorem Work.compute_overruns (w : Work) : w.compute.s.overruns = true ↔ w.s.ctl.mode = .serving ∧ ¬ w.s.fits := by
  have hsame : w.compute.s.computeAuthority.2 = w.s.computeAuthority.2 := by
    rw [Bool.eq_iff_iff, State.computeAuthority_outside_iff, State.computeAuthority_outside_iff]
    exact Iff.rfl
  rw [State.overruns, Bool.and_eq_true, beq_iff_eq, Bool.or_eq_true, decide_eq_true_iff, hsame, State.fits,
    Classical.not_and_iff_not_or_not, Bool.not_eq_false, Nat.not_le]
  rfl

section
variable {w : Work} (ho : w.overrunEntry = false)
include ho

/-- Where the check of R115 raises nothing, the recomputation replaces the record alone. -/
theorem Work.recomputeNow_of_fits (h : w.s.ctl.mode = .serving → w.s.fits) :
    w.recomputeNow = { w with
      s := w.s.setAuth w.s.computeAuthority.1
      issue := w.modeChanged || w.periodic || decide (w.s.computeAuthority.1.length < w.s.auth.length) } := by
  have hno : ¬ w.compute.s.overruns = true := fun hr =>
    have ⟨hm, hf⟩ := w.compute_overruns.mp hr
    hf (h hm)
  unfold Work.recomputeNow
  dsimp only
  rw [ho, if_neg Bool.false_ne_true, if_neg hno]
  show ({ w.compute with issue := _ } : Work) = _
  rw [Work.compute, Work.on, ho]
  rfl

/-- Where it raises OVERRUN, the record is computed again in STOPPED. -/
theorem Work.recomputeNow_of_overrun (hm : w.s.ctl.mode = .serving) (h : ¬ w.s.fits) :
    w.recomputeNow.s = w.compute.raiseOverrun.compute.s ∧ w.recomputeNow.issue
      = (w.compute.raiseOverrun.modeChanged || w.compute.raiseOverrun.periodic
        || decide (w.compute.raiseOverrun.compute.s.auth.length < w.s.auth.length)) := by
  unfold Work.recomputeNow
  dsimp only
  rw [ho, if_neg Bool.false_ne_true, if_pos (w.compute_overruns.mpr ⟨hm, h⟩)]
  exact ⟨rfl, rfl⟩

end

end Sys2Proof.Machine

/-!
PROOF. A raised cause and the entry into STOPPED, what an event adds to the Drive Link Unit, and what the
statements call the recomputation of a state (R103, R115 to R118, R142 to R144).
-/

namespace Sys2Proof.Machine

/-! ### Growth of the link within an event -/

/-- Within an event the outgoing order only grows, NOTICE_OVERFLOW is only latched, and outstanding messages
may be given up; nothing else of the Drive Link Unit changes. -/
structure DriveLink.Grows (l l' : DriveLink) : Prop where
  rest : l' = { l with outgoing := l'.outgoing, latched := l'.latched, outstanding := l'.outstanding, pendingIssue := l'.pendingIssue }
  outgoing : ∃ new, l'.outgoing = l.outgoing ++ new
  latched : l'.latched = { l.latched with noticeOverflow := l'.latched.noticeOverflow }
  overflow : l.latched.noticeOverflow = true → l'.latched.noticeOverflow = true

section
variable {l l' l'' : DriveLink}

theorem DriveLink.Grows.refl : l.Grows l := ⟨rfl, ⟨[], (List.append_nil _).symm⟩, rfl, id⟩

theorem DriveLink.Grows.trans (h : l.Grows l') (h' : l'.Grows l'') : l.Grows l'' := by
  obtain ⟨hr, ⟨new, ho⟩, hl, hv⟩ := h
  obtain ⟨hr', ⟨new', ho'⟩, hl', hv'⟩ := h'
  refine ⟨?_, ⟨new ++ new', by rw [ho', ho, List.append_assoc]⟩, ?_, hv' ∘ hv⟩
  · rw [hr', hr]
  · rw [hl', hl]

theorem DriveLink.Grows.counters (h : l.Grows l') : l'.counters = l.counters := by rw [h.rest]
theorem DriveLink.Grows.authTimer (h : l.Grows l') : l'.authTimer = l.authTimer := by rw [h.rest]
theorem DriveLink.Grows.authSeq (h : l.Grows l') : l'.authSeq = l.authSeq := by rw [h.rest]
theorem DriveLink.Grows.mem (h : l.Grows l') {x : OutItem} (hx : x ∈ l.outgoing) : x ∈ l'.outgoing := by
  obtain ⟨new, ho⟩ := h.outgoing
  rw [ho]
  exact List.mem_append_left _ hx

end

theorem State.queueNotice_grows (s : State) (n : Notice) : s.link.Grows (s.queueNotice n).link := by
  obtain ⟨-, h⟩ | ⟨-, h⟩ := s.queueNotice_cases n
  · rw [h]
    exact ⟨rfl, ⟨_, rfl⟩, rfl, id⟩
  · rw [h]
    exact ⟨rfl, ⟨[], (List.append_nil _).symm⟩, rfl, fun _ => rfl⟩

theorem State.recordCause_ctl (s : State) (c : Cause) : (s.recordCause c).ctl =
    if s.ctl.causes.has c then s.ctl.clearMark c
    else { s.ctl.clearMark c with
      causes := s.ctl.causes.add c
      first := if s.ctl.causes.isEmpty then some c else s.ctl.first } := by
  have hm : (s.ctl.clearMark c).causes = s.ctl.causes ∧ (s.ctl.clearMark c).first = s.ctl.first := by
    cases c <;> exact ⟨rfl, rfl⟩
  unfold State.recordCause
  dsimp only
  rw [State.setCtl_ctl, hm.1, hm.2]
  split
  · rfl
  · obtain ⟨l, h⟩ := State.queueNotice_link _ (.stopped c none)
    rw [h]
    rfl

theorem State.recordCause_link (s : State) (c : Cause) : (s.recordCause c).link =
    if s.ctl.causes.has c then s.link else (s.queueNotice (.stopped c none)).link := by
  have hm : (s.ctl.clearMark c).causes = s.ctl.causes := by cases c <;> rfl
  unfold State.recordCause
  dsimp only
  rw [State.setCtl_ctl, hm]
  split
  · rfl
  · unfold State.queueNotice
    rw [State.setCtl_link, State.setCtl_link]
    split <;> rfl

theorem State.recordCause_auth (s : State) (c : Cause) : (s.recordCause c).auth = s.auth := by
  rw [s.recordCause_eq]
  rfl

theorem State.recordCause_has (s : State) (c : Cause) : (s.recordCause c).ctl.causes.has c = true := by
  obtain ⟨m, l, h, hc, -⟩ := s.recordCause_spec c
  rw [h]
  exact hc

theorem State.recordCause_grows (s : State) (c : Cause) : s.link.Grows (s.recordCause c).link := by
  rw [s.recordCause_link]
  split
  · exact .refl
  · exact s.queueNotice_grows _

theorem Work.enterStopped_link (w : Work) : w.enterStopped.s.link =
    if w.s.ctl.mode = .serving then { w.s.link with outstanding := [], pendingIssue := false } else w.s.link := by
  unfold Work.enterStopped
  dsimp only
  split <;> rfl

theorem Work.enterStopped_auth (w : Work) : w.enterStopped.s.auth = w.s.auth := by
  unfold Work.enterStopped
  dsimp only
  split <;> rfl

theorem Work.enterStopped_grows (w : Work) : w.s.link.Grows w.enterStopped.s.link := by
  rw [w.enterStopped_link]
  split
  · exact ⟨rfl, ⟨[], (List.append_nil _).symm⟩, rfl, id⟩
  · exact .refl

theorem Work.enterServing_link (w : Work) : w.enterServing.s.link = w.s.link := by
  unfold Work.enterServing
  dsimp only
  rw [State.claimAhead_eq]
  rfl

theorem Work.listenExit_grows (w : Work) : w.s.link.Grows w.listenExit.s.link := by
  obtain h | h | h := w.listenExit_cases
  · rw [h]; exact .refl
  · rw [h]; exact w.enterStopped_grows
  · rw [h, w.enterServing_link]; exact .refl

theorem Work.raise_grows (w : Work) (c : Cause) : w.s.link.Grows (w.raise c).s.link := by
  have recorded : w.s.link.Grows (w.on (·.recordCause c)).s.link := w.s.recordCause_grows c
  obtain h | h | h := w.raise_cases c
  · rw [h]; exact recorded
  · rw [h]; exact recorded.trans (Work.listenExit_grows _)
  · rw [h]; exact recorded.trans (Work.enterStopped_grows _)

theorem Work.raiseOverrun_grows (w : Work) : w.s.link.Grows w.raiseOverrun.s.link :=
  Work.raise_grows (w.on fun s => s.setAuth { s.auth with overrun := true }) .overrun

theorem Work.compute_link (w : Work) : w.compute.s.link = w.s.link := rfl

theorem Work.recomputeNow_grows (w : Work) : w.s.link.Grows w.recomputeNow.s.link := by
  have check (w : Work) : w.s.link.Grows
      (if w.compute.s.overruns then w.compute.raiseOverrun.compute else w.compute).s.link := by
    split
    · rw [Work.compute_link]
      exact w.compute.raiseOverrun_grows
    · exact .refl
  unfold Work.recomputeNow
  dsimp only
  split
  · exact w.raiseOverrun_grows.trans (check _)
  · exact check w

theorem Work.settle_grows (w : Work) (before : State) : w.s.link.Grows (w.settle before).s.link := by
  unfold Work.settle
  split
  · exact w.recomputeNow_grows
  · exact .refl

/-! ### Notices from the queue to the order -/

/-- From `s` on a notice has been queued, or lost with NOTICE_OVERFLOW latched while 8 waited. -/
def State.queued (s : State) (l : DriveLink) (n : Notice) : Prop :=
  (s.link.notices.length < 8 → OutItem.notice n ∈ l.outgoing)
    ∧ (8 ≤ s.link.notices.length → l.latched.noticeOverflow = true)

theorem State.queueNotice_queued (s : State) (n : Notice) : s.queued (s.queueNotice n).link n := by
  obtain ⟨hl, h⟩ | ⟨hl, h⟩ := s.queueNotice_cases n
  · rw [h]
    exact ⟨fun _ => List.mem_append_right _ (List.mem_singleton_self _), fun h8 => by omega⟩
  · rw [h]
    exact ⟨fun h8 => by omega, fun _ => rfl⟩

theorem State.recordCause_queued (s : State) {c : Cause} (hc : s.ctl.causes.has c = false) :
    s.queued (s.recordCause c).link (.stopped c none) := by
  rw [s.recordCause_link, if_neg (by rw [hc]; decide)]
  exact s.queueNotice_queued _

theorem State.queued.grows {s : State} {l l' : DriveLink} {n : Notice} (h : s.queued l n) (hg : l.Grows l') :
    s.queued l' n :=
  ⟨fun hl => hg.mem (h.1 hl), fun hl => hg.overflow (h.2 hl)⟩

/-- A notice that the work has queued is sent, completed with the mode the event leaves (R164). -/
theorem State.queued.noticed {s u t : State} {n n' : Notice} (h : s.queued u.link n) (hc : u.Closes t)
    (hn : OutItem.complete u.ctl.mode (.notice n) = .notice n') : s.noticed t n' :=
  ⟨fun hl => hn ▸ hc.notices _ (h.1 hl) rfl, fun hl => by rw [hc.latched]; exact h.2 hl⟩

/-! ### Raising a cause (R142, R143) -/

/-- A cause other than START_CONFLICT that is raised now stops the station. -/
def State.stopsOnRaise (s : State) : Prop :=
  s.ctl.mode = .serving ∨ s.ctl.mode = .parked ∨ (s.ctl.mode = .listen ∧ s.pos.start = true)

theorem CauseSet.beyondStartConflict_iff {k : CauseSet} :
    k.beyondStartConflict = true ↔ ∃ c, c ≠ .startConflict ∧ k.has c = true := by
  rw [CauseSet.beyondStartConflict, List.any_eq_true]
  constructor
  · rintro ⟨c, -, h⟩
    exact ⟨c, by simpa using h⟩
  · rintro ⟨c, h⟩
    exact ⟨c, by cases c <;> decide, by simpa using h⟩

section
variable {w : Work} {c : Cause}

theorem Work.listenExit_of_cause (hm : w.s.ctl.mode = .listen) (hs : w.s.pos.start = true)
    (h : w.s.ctl.causes.beyondStartConflict = true) : w.listenExit = w.enterStopped := by
  unfold Work.listenExit
  rw [if_pos ⟨hm, hs⟩, if_pos h]

theorem Work.listenExit_of_idle (h : ¬ (w.s.ctl.mode = .listen ∧ w.s.pos.start = true)) : w.listenExit = w := by
  unfold Work.listenExit
  rw [if_neg h]

theorem Work.raise_of_stops (hc : c ≠ .startConflict) (h : w.s.stopsOnRaise) :
    w.raise c = (w.on (·.recordCause c)).enterStopped := by
  have hmode : (w.on (·.recordCause c)).s.ctl.mode = w.s.ctl.mode := w.s.recordCause_mode c
  unfold Work.raise
  dsimp only
  obtain h | h | ⟨h, hs⟩ := h
  · rw [hmode, h]
  · rw [hmode, h]
  · rw [hmode, h]
    refine Work.listenExit_of_cause (hmode.trans h) ((w.s.recordCause_pos c) ▸ hs) ?_
    exact CauseSet.beyondStartConflict_iff.mpr ⟨c, hc, w.s.recordCause_has c⟩

theorem Work.raise_of_stays (h : ¬ w.s.stopsOnRaise) : w.raise c = w.on (·.recordCause c) := by
  have hmode : (w.on (·.recordCause c)).s.ctl.mode = w.s.ctl.mode := w.s.recordCause_mode c
  have hpos : (w.on (·.recordCause c)).s.pos = w.s.pos := w.s.recordCause_pos c
  simp only [State.stopsOnRaise, not_or] at h
  unfold Work.raise
  dsimp only
  rw [hmode]
  split
  · rfl
  next hm => exact Work.listenExit_of_idle (by rw [hmode, hpos]; exact h.2.2)
  next hm => exact absurd hm h.1
  next hm => exact absurd hm h.2.1
  · rfl

end

theorem filter_filter_self {α : Type} (p : α → Bool) (xs : List α) : (xs.filter p).filter p = xs.filter p := by
  rw [List.filter_filter]
  simp only [Bool.and_self]

theorem State.reserved_dropTentative (s : State) : s.dropTentative.reserved = s.reserved :=
  filter_filter_self _ _

theorem Work.enterStopped_reserved (w : Work) : w.enterStopped.s.reserved = w.s.reserved := by
  rw [State.reserved, w.enterStopped_claims]
  exact filter_filter_self _ _

theorem State.recordCause_reserved (s : State) (c : Cause) : (s.recordCause c).reserved = s.reserved := by
  rw [State.reserved, s.recordCause_claims]
  rfl

end Sys2Proof.Machine

/-!
PROOF. The machine's commands where nothing is computed: the queue, the resets, the refusals at the link,
the requests that only read or clear, and the transmitter.
-/

namespace Sys2Proof.Machine

/-! ### The queue and the holds -/

/-- Settles O1: a step looks at the queue alone. -/
theorem stepRunsFrontCommand : Obligations.StepRunsFrontCommand := by
  intro c rest s h
  unfold step
  rw [h]

/-- Settles O2, by the number of steps due. -/
theorem emptyQueueMovesOn : Obligations.EmptyQueueMovesOn := by
  intro s h
  have hstep : step s = .next s.idle := by
    unfold step
    rw [h]
  rw [hstep]
  unfold State.idle
  refine ⟨fun hd => by rw [hd], fun c hd => by rw [hd], fun hd => ?_⟩
  match hdue : s.due with
  | [] => rw [hdue] at hd; exact absurd hd (by decide)
  | [c] => rw [hdue] at hd; exact absurd hd (by decide : ¬ 2 ≤ 1)
  | c :: c' :: cs =>
    have hlt : Config.tieBreak s.freeCount % (cs.length + 2) < (c :: c' :: cs).length :=
      Nat.mod_lt _ (Nat.succ_pos _)
    refine ⟨_, ?_, rfl⟩
    rw [List.getD_eq_getElem?_getD, List.getElem?_eq_getElem hlt, Option.getD_some]
    exact List.getElem_mem hlt

theorem State.ifDue_of_held {s : State} {due : Bool} (f : State → State) (h : s.held = true) :
    s.ifDue due f = s := if_neg fun hd => absurd (hd.1.symm.trans h) nofun

theorem State.request_of_held {s : State} (h : s.held = true) (type : Byte) (n : Nat) (payload : List Byte)
    (f : Work → Answer) : s.request type n payload f = s := if_pos h

/-- Settles O4: every other command asks first whether the part is held. -/
theorem heldPartTakesNothing : Obligations.HeldPartTakesNothing := by
  intro c s h hc
  have due (b : Bool) (f : State → State) : (.next (s.ifDue b f) : Result) = .next s :=
    congrArg _ (s.ifDue_of_held f h)
  have asked (type : Byte) (n : Nat) (payload : List Byte) (f : Work → Answer) :
      (.next (s.request type n payload f) : Result) = .next s := congrArg _ (s.request_of_held h type n payload f)
  cases c with
  | powerOnReset | pinReset | resetPinAsserted | powerLoss | externalStopEdge => exact hc.elim
  | unknownRequest type payload => exact congrArg _ (if_pos (.inl h))
  | status | readClaims | readPeer | readCounters | clearCounters | clearLatched | appendRoute | truncateRoute
  | proceed | setStart | setUrgency | park | unpark | resume | clearPeer | airReset | setParam | setClass
  | restart => exact asked _ _ _ _
  | configurationLoadEnd | linkRateChange | driveLinkRequestArrival | driveReport | restartTakesEffect
  | transmitterFrameSent | beaconTimerExpiry | txDone | beaconTxTimeout | rxFrame | modemFrameOtherKind
  | transponderRead | listenTimerExpiry | authorityPeriodExpiry | supervisionExpiry | yieldWindowExpiry
  | entryHoldExpiry | backoffExpiry | tableOverflowHoldExpiry | peerStale | peerExpire => exact due _ _

/-- Settles O5: the reset state is a closed term, and each invariant is decidable on it. -/
theorem resetStateMeetsInvariants : Obligations.ResetStateMeetsInvariants := by
  refine ⟨?stop, ?load, ?causes, ?link, ?bounds, ?peers, ?jitter, ?air, ?auth, ?agree⟩
  case stop => decide +kernel
  case load => decide +kernel
  case causes => decide +kernel
  case link => decide +kernel
  case bounds => decide +kernel
  case peers => decide +kernel
  case jitter => decide +kernel
  case air => decide +kernel
  case auth => decide +kernel
  case agree => decide +kernel

/-! ### Resets and the end of a load -/

theorem Params.defaults_horizon (straps : Straps) : (Params.defaults straps).horizon = 3217 := by
  simp [Params.horizon, Params.stopping, ceilDiv, Params.defaults]

theorem State.resetBlocks_eq (s : State) (straps : Straps) : s.resetBlocks straps = { s with
    route := .reset, pos := .reset, claims := .reset, peers := .reset, auth := .reset
    beacon := .reset straps.stationId, ctl := .reset, link := .reset, config := .reset straps, readerRx := [] } := by
  unfold State.resetBlocks
  rw [Params.defaults_horizon]
  rfl

/-- Settles O29: a release that leaves no hold resets the blocks, and one that leaves the other hold does
nothing more. -/
theorem resetGivesEveryBlockItsState : Obligations.ResetGivesEveryBlockItsState := by
  intro s straps
  have free (t : State) (h : t.held = false) : t.releaseReset straps = { t with
      route := .reset, pos := .reset, claims := .reset, peers := .reset, auth := .reset
      beacon := .reset straps.stationId, ctl := .reset, link := .reset, config := .reset straps, readerRx := [] } :=
    (if_neg (by rw [h]; decide)).trans (t.resetBlocks_eq straps)
  have kept (t : State) (h : t.held = true) : t.releaseReset straps = t := if_pos h
  refine ⟨fun h => ?_, fun h => ?_, fun h => ?_, fun h => ?_, fun h hd => ?_⟩
  · exact congrArg Host.Outcome.next (free { s with supplyLost := false } (State.held_eq_false_iff.mpr ⟨h, rfl⟩))
  · exact congrArg Host.Outcome.next (kept { s with supplyLost := false } (Bool.or_eq_true_iff.mpr (.inl h)))
  · exact congrArg Host.Outcome.next (free { s with resetPin := false } (State.held_eq_false_iff.mpr ⟨rfl, h⟩))
  · exact congrArg Host.Outcome.next (kept { s with resetPin := false } (Bool.or_eq_true_iff.mpr (.inr h)))
  · exact congrArg Host.Outcome.next
      ((State.ifDue_of_due (fun s => s.resetBlocks s.config.straps) h hd).trans (s.resetBlocks_eq _))

/-- Settles O30. -/
theorem resetLinesHoldThePart : Obligations.ResetLinesHoldThePart := fun _ => ⟨rfl, rfl⟩

/-- The event of a load that ends in a fault. -/
theorem State.event_loadFault {s : State} {memory : List Byte} {f : InitFault} (hc : s.noticesComplete)
    (h : (Work.begin s).loadEnd memory = (Work.begin s).on (·.loadFault f)) :
    s.event (·.loadEnd memory) = (s.loadFault f).transmit := State.event_plain h rfl hc

/-- Settles O31. -/
theorem faultyLoadStaysInInit : Obligations.FaultyLoadStaysInInit := by
  intro s memory hh hc
  refine ⟨fun hl hid => ?_, fun hl h1 h250 hr => ?_, fun hl => ?_⟩
  · refine congrArg Host.Outcome.next ((State.ifDue_of_due _ hh hl).trans
      (State.event_loadFault (f := .badId) hc ?_))
    unfold Work.loadEnd
    exact if_pos (hid.imp Nat.lt_one_iff.mpr id)
  · refine congrArg Host.Outcome.next ((State.ifDue_of_due _ hh hl).trans
      (State.event_loadFault (f := .configBad) hc ?_))
    unfold Work.loadEnd
    dsimp only
    exact (if_neg (not_or.mpr ⟨Nat.not_lt.mpr h1, Nat.not_lt.mpr h250⟩)).trans (by rw [hr])
  · exact congrArg Host.Outcome.next (State.ifDue_of_not_due _ hl)

/-! ### Requests at the link (R156, R157) -/

theorem isRequestType_cases : ∀ type : Byte, isRequestType type = true →
    type ∈ [1#8, 2#8, 3#8, 4#8, 5#8, 6#8, 7#8, 8#8, 9#8, 10#8, 11#8, 12#8, 13#8, 14#8, 15#8, 16#8, 17#8, 18#8, 19#8] := by
  decide +kernel

/-- The command of a request of a known type checks its length and then does its own work. -/
theorem Frame.exec_command (f : Frame) (s : State) (h : isRequestType f.type = true) :
    ∃ g, exec f.command s = .next (s.request f.type (requestLength f.type) f.payload g) := by
  obtain ⟨type, payload⟩ := f
  have hmem := isRequestType_cases type h
  simp only [List.mem_cons, List.not_mem_nil, or_false] at hmem
  obtain rfl | rfl | rfl | rfl | rfl | rfl | rfl | rfl | rfl | rfl | rfl | rfl | rfl | rfl | rfl | rfl | rfl | rfl
    | rfl := hmem
  all_goals exact ⟨_, rfl⟩

theorem State.takeRequest_refused {s : State} {f : Frame}
    (h : s.link.responseWaiting = true ∨ ∃ g, s.link.intake.head? = some g ∧ g ≠ f) : s.takeRequest f = none := by
  unfold State.takeRequest
  obtain h | ⟨g, hg, hne⟩ := h
  · rw [if_pos h]
  · obtain ⟨rest, hi⟩ := List.head?_eq_some_iff.mp hg
    split
    · rfl
    · rw [hi]
      exact if_neg hne

/-- Settles O35, from the checks that the commands of all request types share. -/
theorem requestsTakenAndRefusedAtTheLink : Obligations.RequestsTakenAndRefusedAtTheLink := by
  intro s f
  refine ⟨fun h ht _ => ?_, fun h ht h1 hm => ?_, fun h ht hm hn => ?_, fun ht h => ?_⟩
  · refine congrArg Host.Outcome.next (?_ : s.unknown f.type f.payload = _)
    unfold State.unknown
    rw [if_neg (by rw [h.1, ht]; decide), State.takeRequest_ready h]
    exact State.answered_refused h rfl
  · obtain ⟨g, hg⟩ := f.exec_command s ht
    rw [hg]
    unfold State.request
    rw [if_neg (by rw [h.1]; decide), State.takeRequest_ready h]
    exact congrArg Host.Outcome.next (State.answered_refused h (if_pos ⟨hm, h1⟩))
  · obtain ⟨g, hg⟩ := f.exec_command s ht
    rw [hg]
    unfold State.request
    rw [if_neg (by rw [h.1]; decide), State.takeRequest_ready h]
    refine congrArg Host.Outcome.next (State.answered_refused h ?_)
    exact (if_neg fun hi => hm.elim hi.2 fun hm => hm hi.1).trans (if_pos hn)
  · obtain ⟨g, hg⟩ := f.exec_command s ht
    rw [hg]
    unfold State.request
    split
    · rfl
    · rw [State.takeRequest_refused h]

/-! ### Requests that read and requests that clear -/

/-- A request of the right length that changes one block besides the intake and is answered. -/
theorem State.request_plain {s t : State} {type : Byte} {n : Nat} {payload : List Byte} {f : Work → Answer}
    {code : ResultCode} {result : List Byte} (h : s.readyFor ⟨type, payload⟩) (hm : s.ctl.mode ≠ .init)
    (hn : payload.length = n) (hf : f (Work.begin s.taken) = ⟨Work.begin t, code, result⟩)
    (hv : t.claimView = s.claimView) (hc : t.noticesComplete) :
    (.next (s.request type n payload f) : Result) = .next (t.respond type code result).transmit := by
  rw [State.request_ready h hm hn, State.answered_plain hf hv hc]

/-- A request of the right length that only answers. -/
theorem State.request_answers {s : State} {type : Byte} {n : Nat} {payload : List Byte} {f : Work → Answer}
    {code : ResultCode} {result : List Byte} (h : s.readyFor ⟨type, payload⟩) (hm : s.ctl.mode ≠ .init)
    (hn : payload.length = n) (hf : f (Work.begin s.taken) = ⟨Work.begin s.taken, code, result⟩) :
    (.next (s.request type n payload f) : Result) = .next (s.replied type code result) :=
  State.request_plain h hm hn hf rfl (State.taken_complete h)

theorem Work.readPeer_eq (w : Work) (slot : Byte) :
    (24 ≤ slot.toNat → w.readPeer slot = w.answer .malformed)
      ∧ (slot.toNat < 24 → w.s.peers.entryIn slot.toNat = none → w.readPeer slot = w.answer .noSuchPeer)
      ∧ ∀ e, slot.toNat < 24 → w.s.peers.entryIn slot.toNat = some e →
        w.readPeer slot = w.answerWith (w.s.peerPayload slot e) := by
  unfold Work.readPeer
  refine ⟨fun h => if_pos h, fun h he => ?_, fun e h he => ?_⟩
  · rw [if_neg (show ¬ Config.peerSlots ≤ slot.toNat from Nat.not_le.mpr h), he]
  · rw [if_neg (show ¬ Config.peerSlots ≤ slot.toNat from Nat.not_le.mpr h), he]

/-- Settles O36: STATUS is answered in INIT too; the others pass the check of the mode. -/
theorem readRequestsAnswer : Obligations.ReadRequestsAnswer := by
  intro s
  refine ⟨fun h => ?_, fun hm h => ?_, fun slot hm h => ⟨fun hs => ?_, fun hs he => ?_, fun e hs he => ?_⟩,
    fun hm h => ?_⟩
  · refine congrArg Host.Outcome.next (?_ : s.request 0x01#8 0 [] Work.status = _)
    unfold State.request
    rw [if_neg (by rw [h.1]; decide), State.takeRequest_ready h]
    refine State.answered_refused h ?_
    have status : Work.status (Work.begin s.taken) = ⟨Work.begin s.taken, .done, s.taken.statusPayload⟩ := rfl
    refine (if_neg fun hi => hi.2 rfl).trans (status.trans (congrArg (Answer.mk (Work.begin s.taken) .done) ?_))
    unfold State.statusPayload causeField
    cases hf : s.ctl.first <;> cases hr : s.link.lastResult <;> simp only [State.taken, State.setLink, hf, hr]
  · exact State.request_answers h hm rfl rfl
  · exact State.request_answers h hm rfl ((Work.readPeer_eq _ slot).1 hs)
  · exact State.request_answers h hm rfl ((Work.readPeer_eq _ slot).2.1 hs he)
  · exact State.request_answers h hm rfl ((Work.readPeer_eq _ slot).2.2 e hs he)
  · exact State.request_answers h hm rfl rfl

/-- Settles O37. -/
theorem clearsUrgencyAirResetRestart : Obligations.ClearsUrgencyAirResetRestart := by
  intro s hm
  refine ⟨fun h => ?_, fun h => ?_, fun v h => ?_, fun h => ?_, fun h => ?_⟩
  · exact State.request_plain (t := s.taken.setLink { s.taken.link with counters := .zero }) h hm rfl rfl rfl
      h.2.2.2
  · exact State.request_plain (t := s.taken.setLink { s.taken.link with latched := .clear }) h hm rfl rfl rfl
      h.2.2.2
  · have hcode : (if 3 < v.toNat then ResultCode.doneClamped else .done)
        = if v.toNat ≤ 3 then .done else .doneClamped := by
      split
      next hv => rw [if_neg (Nat.not_le.mpr hv)]
      next hv => rw [if_pos (Nat.not_lt.mp hv)]
    rw [← hcode]
    exact State.request_plain (t := s.taken.setClaims { s.claims with urgency := min 3 v.toNat }) h hm rfl rfl rfl
      (State.taken_complete h)
  · exact State.request_plain (t := s.taken.resetAir) h hm rfl rfl rfl (State.taken_complete h)
  · exact State.request_answers h hm rfl rfl

/-! ### The transmitter (R159, R175, R178) -/

/-- The last sent sequence once an item has been taken to be sent (R159). -/
def OutItem.sentAfter (last : Option Byte) : OutItem → Option Byte
  | .authority m => some m.seq
  | _ => last

/-- A free transmitter with an item to send takes it, unless a rate waits or a RESTART is about to take
effect. -/
theorem State.transmit_of_free {s : State} {y : OutItem} {ys : List OutItem} (ht : s.link.transmitting = none)
    (ho : s.link.outgoing = y :: ys) (hr : s.link.restartDue = false) (hp : s.config.pendingRate = none) :
    s.transmit = s.setLink { s.link with
      transmitting := some y
      outgoing := ys
      lastSent := y.sentAfter s.link.lastSent } := by
  unfold State.transmit
  split
  next x xs _ hx =>
    obtain ⟨rfl, rfl⟩ := List.cons.inj (hx.symm.trans ho)
    refine (if_neg fun h => ?_).trans (by cases x <;> rfl)
    rw [hr, hp] at h
    exact absurd h (by decide)
  next hn => exact (hn _ _ ht ho).elim

theorem State.transmit_of_empty {s : State} (ho : s.link.outgoing = []) : s.transmit = s := by
  obtain h | ⟨x, xs, -, hx, -⟩ := s.transmit_cases
  · exact h
  · rw [ho] at hx
    cases hx

theorem State.transmit_of_restart {s : State} (hr : s.link.restartDue = true) : s.transmit = s := by
  obtain h | ⟨x, xs, -, -, hx, -⟩ := s.transmit_cases
  · exact h
  · rw [hr] at hx
    cases hx

/-- Settles O47. -/
theorem transmitterTakesOldestItem : Obligations.TransmitterTakesOldestItem := by
  refine ⟨fun s r hh hp ht => ?_, fun s x hh ht hr hp => ⟨fun hx => ?_, fun hx ho => ?_, fun y ys hx ho => ?_⟩⟩
  · refine congrArg Host.Outcome.next ((State.ifDue_of_due _ hh (by rw [ht]; rfl)).trans ?_)
    have hrate : (r != s.config.linkRate) = decide (r ≠ s.config.linkRate) := by
      rw [Bool.eq_iff_iff, bne_iff_ne, decide_eq_true_iff]
    dsimp only
    rw [hp, ← hrate]
    rfl
  all_goals
    refine congrArg Host.Outcome.next ((State.ifDue_of_due _ hh rfl).trans ?_)
    unfold State.frameSent
    rw [ht]
    dsimp only
    rw [hx, hr]
  · exact State.transmit_of_restart rfl
  · exact State.transmit_of_empty ho
  · exact (State.transmit_of_free (s := s.setLink { s.link with transmitting := none, restartDue := false }) rfl ho rfl hp).trans (by rw [← hr]; cases y <;> rfl)

end Sys2Proof.Machine

/-!
PROOF. The receivers over whole frames, and the frames and beacons of the part field by field (R180 to R182).
-/

namespace Sys2Proof.Machine

/-! ### Fields of bytes (R179) -/

theorem byteOf_toNat {n : Nat} (h : n ≤ 255) : (byteOf n).toNat = n := by
  rw [byteOf, BitVec.toNat_ofNat]
  exact Nat.mod_eq_of_lt (by omega)

theorem half_bytes (h : Half) : half (h.extractLsb' 8 8) (h.extractLsb' 0 8) = h := by
  unfold half
  rw [BitVec.extractLsb'_append_extractLsb'_eq_extractLsb' (by rfl)]
  exact BitVec.extractLsb'_eq_self

theorem bytesOfHalf_inj {a b : Half} : bytesOfHalf a = bytesOfHalf b ↔ a = b := by
  refine ⟨fun h => ?_, congrArg _⟩
  obtain ⟨h1, h⟩ := List.cons.inj h
  obtain ⟨h0, -⟩ := List.cons.inj h
  rw [← half_bytes a, ← half_bytes b, h1, h0]

@[simp] theorem bytesOfHalf_length (h : Half) : (bytesOfHalf h).length = 2 := rfl

/-! ### The drive link's receiver (R156, R180) -/

/-- The head of a frame's bytes behind the sync byte: it passes with a good CRC and a good length (R180). -/
theorem linkHead_frame (type : Byte) (payload : List Byte) (crc : Half) (rest : List Byte)
    (hp : payload.length ≤ 250) :
    linkHead (type :: byteOf payload.length :: (payload ++ bytesOfHalf crc ++ rest)) =
      if crc ≠ crc16 (type :: byteOf payload.length :: payload) ∨ (type = 0x20#8 ∧ payload.length ≠ 5) then
        some (.failed, 0)
      else some (.good ⟨type, payload⟩, payload.length + 4) := by
  have hn : (byteOf payload.length).toNat = payload.length := byteOf_toNat (by omega)
  have htake : (payload ++ bytesOfHalf crc ++ rest).take payload.length = payload := by
    rw [List.append_assoc, List.take_left]
  have hcrc : ((payload ++ bytesOfHalf crc ++ rest).drop payload.length).take 2 = bytesOfHalf crc := by
    rw [List.append_assoc, List.drop_left]
    rfl
  have hlen : ¬ (payload ++ bytesOfHalf crc ++ rest).length < payload.length + 2 := by
    rw [List.length_append, List.length_append, bytesOfHalf_length]
    omega
  unfold linkHead
  dsimp only
  rw [hn, if_neg (Nat.not_lt.mpr hp), if_neg hlen, htake, hcrc]
  by_cases h : crc = crc16 (type :: byteOf payload.length :: payload)
  · rw [if_neg (Classical.not_not.mpr (bytesOfHalf_inj.mpr h.symm))]
    by_cases h5 : type = 0x20#8 ∧ payload.length ≠ 5
    · rw [if_pos h5, if_pos (.inr h5)]
    · rw [if_neg h5, if_neg (not_or.mpr ⟨Classical.not_not.mpr h, h5⟩)]
  · rw [if_pos fun hc => h (bytesOfHalf_inj.mp hc).symm, if_pos (.inl h)]

theorem linkScan_skip {b : Byte} (h : b ≠ 0xA5#8) (n : Nat) (cut : Bool) (bytes : List Byte) :
    linkScan (n + 1) cut (b :: bytes) = linkScan n cut bytes := if_pos h

theorem linkScan_of_sync (n : Nat) (cut : Bool) (bytes : List Byte) : linkScan (n + 1) cut (0xA5#8 :: bytes) =
    match linkHead bytes with
    | none => ([], 0xA5#8 :: bytes, cut)
    | some (.good f, k) =>
      if cut then
        let r := linkScan n false bytes
        (.failed :: r.1, r.2)
      else
        let r := linkScan n false (bytes.drop k)
        (.good f :: r.1, r.2)
    | some (.failed, _) =>
      let r := linkScan n false bytes
      (.failed :: r.1, r.2) := if_neg (Classical.not_not.mpr rfl)

/-- A frame that fails leaves the hunt to go on behind its sync byte. -/
theorem linkScan_failed {bytes : List Byte} {k : Nat} (n : Nat) (cut : Bool)
    (h : linkHead bytes = some (.failed, k)) : linkScan (n + 1) cut (0xA5#8 :: bytes)
      = (.failed :: (linkScan n false bytes).1, (linkScan n false bytes).2) := by
  rw [linkScan_of_sync, h]

theorem linkScan_missing {bytes : List Byte} (n : Nat) (cut : Bool) (h : linkHead bytes = none) :
    linkScan (n + 1) cut (0xA5#8 :: bytes) = ([], 0xA5#8 :: bytes, cut) := by
  rw [linkScan_of_sync, h]

/-- Bytes without a sync byte leave nothing. -/
theorem linkScan_no_sync {bytes : List Byte} (h : ∀ b ∈ bytes, b ≠ 0xA5#8) (n : Nat) (hn : bytes.length < n)
    (cut : Bool) : linkScan n cut bytes = ([], [], false) := by
  induction bytes generalizing n with
  | nil =>
    obtain ⟨m, rfl⟩ := Nat.exists_eq_succ_of_ne_zero (Nat.ne_of_gt hn)
    rfl
  | cons b bytes ih =>
    obtain ⟨m, rfl⟩ := Nat.exists_eq_succ_of_ne_zero (Nat.ne_of_gt (Nat.zero_lt_of_lt hn))
    rw [linkScan_skip (h b List.mem_cons_self)]
    exact ih (fun x hx => h x (List.mem_cons_of_mem _ hx)) m (Nat.lt_of_succ_lt_succ hn)

/-- A whole good frame is one event, and the scan goes on behind it. -/
theorem linkScan_frame {f : Frame} (hp : f.payload.length ≤ 250) (h5 : f.type = 0x20#8 → f.payload.length = 5)
    (n : Nat) (rest : List Byte) : linkScan (n + 1) false (linkFrame f.type f.payload ++ rest)
      = (.good f :: (linkScan n false rest).1, (linkScan n false rest).2) := by
  have hbytes : linkFrame f.type f.payload ++ rest = 0xA5#8 :: (f.type :: byteOf f.payload.length
      :: (f.payload ++ bytesOfHalf (crc16 (f.type :: byteOf f.payload.length :: f.payload)) ++ rest)) := rfl
  have hdrop : (f.type :: byteOf f.payload.length :: (f.payload
      ++ bytesOfHalf (crc16 (f.type :: byteOf f.payload.length :: f.payload)) ++ rest)).drop (f.payload.length + 4)
        = rest := by
    show (f.payload ++ _ ++ rest).drop (f.payload.length + 2) = rest
    rw [show f.payload.length + 2 = (f.payload
      ++ bytesOfHalf (crc16 (f.type :: byteOf f.payload.length :: f.payload))).length by
        rw [List.length_append, bytesOfHalf_length], List.drop_left]
  rw [hbytes, linkScan_of_sync, linkHead_frame _ _ _ _ hp,
    if_neg (not_or.mpr ⟨Classical.not_not.mpr rfl, fun h => h.2 (h5 h.1)⟩)]
  dsimp only
  rw [hdrop]
  rfl

/-! ### The air port's receiver and the reader line (R182) -/

/-- A whole modem frame is one event, and the scan goes on behind it. -/
theorem airScan_frame {kind : Byte} {body : List Byte} (hb : body.length ≤ 250) (n : Nat) (rest : List Byte) :
    airScan (n + 1) (modemFrame kind body ++ rest)
      = (.frame kind body :: (airScan n rest).1, (airScan n rest).2) := by
  have hn : (byteOf body.length).toNat = body.length := byteOf_toNat (by omega)
  show airScan (n + 1) (0x3C#8 :: kind :: byteOf body.length :: (body ++ rest)) = _
  conv => lhs; unfold airScan
  dsimp only
  rw [if_neg (Classical.not_not.mpr rfl), hn, if_neg (Nat.not_lt.mpr hb),
    if_neg (by rw [List.length_append]; omega), List.take_left, List.drop_left]

theorem readerScan_frame (cell : CellId) (n : Nat) (rest : List Byte) :
    readerScan (n + 1) (readerFrame cell ++ rest)
      = (cell :: (readerScan n rest).1, (readerScan n rest).2) := by
  show readerScan (n + 1) (0x52#8 :: cell.extractLsb' 8 8 :: cell.extractLsb' 0 8
    :: (0x52#8 ^^^ cell.extractLsb' 8 8 ^^^ cell.extractLsb' 0 8) :: rest) = _
  conv => lhs; unfold readerScan
  dsimp only
  rw [if_neg (Classical.not_not.mpr rfl), if_pos rfl, half_bytes]

/-! ### Runs of frames -/

theorem linkScan_frames (fs : List Frame)
    (h : ∀ f ∈ fs, f.payload.length ≤ 250 ∧ (f.type = 0x20#8 → f.payload.length = 5)) (n : Nat) (hn : fs.length ≤ n) :
    linkScan n false (fs.map fun f => linkFrame f.type f.payload).flatten = (fs.map .good, [], false) := by
  induction fs generalizing n with
  | nil => cases n <;> rfl
  | cons f fs ih =>
    obtain ⟨m, rfl⟩ := Nat.exists_eq_succ_of_ne_zero (Nat.ne_of_gt (Nat.lt_of_lt_of_le (Nat.succ_pos _) hn))
    obtain ⟨hp, h5⟩ := h f List.mem_cons_self
    rw [List.map_cons, List.flatten_cons, linkScan_frame hp h5,
      ih (fun x hx => h x (List.mem_cons_of_mem _ hx)) m (Nat.le_of_succ_le_succ hn), List.map_cons]

theorem airScan_frames (fs : List (Byte × List Byte)) (h : ∀ f ∈ fs, f.2.length ≤ 250) (n : Nat)
    (hn : fs.length ≤ n) : airScan n (fs.map fun f => modemFrame f.1 f.2).flatten
      = (fs.map fun f => .frame f.1 f.2, []) := by
  induction fs generalizing n with
  | nil => cases n <;> rfl
  | cons f fs ih =>
    obtain ⟨m, rfl⟩ := Nat.exists_eq_succ_of_ne_zero (Nat.ne_of_gt (Nat.lt_of_lt_of_le (Nat.succ_pos _) hn))
    rw [List.map_cons, List.flatten_cons, airScan_frame (h f List.mem_cons_self),
      ih (fun x hx => h x (List.mem_cons_of_mem _ hx)) m (Nat.le_of_succ_le_succ hn), List.map_cons]

theorem readerScan_frames (cs : List CellId) (n : Nat) (hn : cs.length ≤ n) :
    readerScan n (cs.map readerFrame).flatten = (cs, []) := by
  induction cs generalizing n with
  | nil => cases n <;> rfl
  | cons c cs ih =>
    obtain ⟨m, rfl⟩ := Nat.exists_eq_succ_of_ne_zero (Nat.ne_of_gt (Nat.lt_of_lt_of_le (Nat.succ_pos _) hn))
    rw [List.map_cons, List.flatten_cons, readerScan_frame, ih m (Nat.le_of_succ_le_succ hn)]

/-- No frame is empty, so a run has at least as many bytes as frames. -/
theorem length_le_flatten {α : Type} {g : α → List Byte} (h : ∀ a, 0 < (g a).length) (as : List α) :
    as.length ≤ (as.map g).flatten.length := by
  induction as with
  | nil => exact Nat.le_refl 0
  | cons a as ih =>
    have ha := h a
    rw [List.map_cons, List.flatten_cons, List.length_append, List.length_cons]
    omega

/-! ### Frames from the part (R180, R181) -/

theorem bytesInt32_eq (i : Int) : bytesInt32 i = bytes32 (BitVec.ofInt 32 i).toNat := by
  rw [bytesInt32, BitVec.toNat_ofInt]
  rfl

theorem posFields_length (p : Option RoutePos) : (posFields p).length = 4 := by cases p <;> rfl

theorem AuthorityMessage.payload_length (m : AuthorityMessage) : m.payload.length = 17 := by
  unfold AuthorityMessage.payload
  simp only [List.length_append, List.length_cons, List.length_nil, posFields_length, bytes16, bytesOfHalf_length]

theorem claimField_length (cell : CellId) (st : ClaimState) (crane : Option Nat) :
    (claimField cell st crane).length = 5 := rfl

theorem claimFields_length (cs : List Claim) :
    (cs.map fun c => claimField c.cell c.state c.crane).flatten.length = 5 * cs.length := by
  induction cs with
  | nil => rfl
  | cons c cs ih =>
    rw [List.map_cons, List.flatten_cons, List.length_append, ih, claimField_length, List.length_cons]
    omega

/-- The covered bytes of the beacon built now (R181). -/
def State.beaconBody (s : State) : List Byte :=
  [0xB1#8, s.config.straps.stationId, s.beacon.seq, byteOf s.ctl.mode.code, byteOf s.claims.urgency,
      byteOf s.claims.deferral]
    ++ bytesOfHalf s.beaconPosition.1 ++ bytes16 (min 65535 s.beaconPosition.2) ++ bytes16 s.pos.speed
    ++ [byteOf s.claims.list.length] ++ (s.claims.list.map fun c => claimField c.cell c.state c.crane).flatten

theorem State.buildPayload_eq (s : State) : s.buildPayload = s.beaconBody ++ bytesOfHalf (crc16 s.beaconBody) := by
  unfold State.buildPayload beaconPayload
  dsimp only
  rw [List.length_map]
  rfl

theorem State.beaconBody_length (s : State) : s.beaconBody.length = 13 + 5 * s.claims.list.length := by
  unfold State.beaconBody
  rw [List.length_append, claimFields_length]
  rfl

theorem State.buildPayload_length (s : State) : s.buildPayload.length = 15 + 5 * s.claims.list.length := by
  rw [s.buildPayload_eq, List.length_append, s.beaconBody_length, bytesOfHalf_length]
  omega

/-- The front bound in the fields of a beacon (R25): the live entry it lies in, or the last. -/
theorem State.beaconPosition_spec {s : State} {front : Nat} (hf : s.front? = some front) (hr : s.route.ok)
    (hne : s.route.entries ≠ []) : ∃ k e, s.route.entry? k = some e
      ∧ s.beaconPosition = (e.cell, front - s.route.startOf k) ∧ s.route.startOf k ≤ front
      ∧ (front < s.route.endOf k ∨ k + 1 = s.route.nextIndex) := by
  obtain ⟨hh, hd⟩ := hr.locate_spec hne front
  obtain ⟨k, e, hk, he, hend⟩ := RouteStore.holds_iff.mp hh
  have hentry : s.route.entry? (s.route.locate front).index = some e := RouteStore.entry?_eq_some.mpr ⟨k, hk, he⟩
  have hdist : s.route.startOf (s.route.locate front).index + (s.route.locate front).offset = front := hd
  refine ⟨_, e, hentry, ?_, by omega, hend.imp (fun h => ?_) id⟩
  · unfold State.beaconPosition
    rw [hf]
    dsimp only
    rw [hentry]
    dsimp only
    congr 1
    omega
  · rw [RouteStore.endOf_eq hentry]
    omega

/-- Settles O25: each scanner by induction on the run, the frames by unfolding the formats. -/
theorem framesReadBack : Obligations.FramesReadBack := by
  refine ⟨fun fs h => ?_, fun fs h => ?_, fun cs => ?_, ⟨fun _ _ _ => rfl, fun m => ⟨?_, m.payload_length⟩,
    fun _ _ => rfl, fun id n e => ?_, fun id cell st y => ?_, fun id r => ?_, fun cell k u => ?_⟩,
    ⟨rfl, rfl, rfl, rfl, rfl⟩, fun s hm => ?_⟩
  · exact linkScan_frames fs h _ (Nat.le_succ_of_le (length_le_flatten (g := fun f : Frame => linkFrame f.type f.payload) (fun _ => Nat.succ_pos _) fs))
  · exact airScan_frames fs h _ (Nat.le_succ_of_le (length_le_flatten (g := fun f : Byte × List Byte => modemFrame f.1 f.2) (fun _ => Nat.succ_pos _) fs))
  · exact readerScan_frames cs _ (Nat.le_succ_of_le (length_le_flatten (g := readerFrame) (fun _ => Nat.succ_pos _) cs))
  · have hp : m.payload.length = 17 := m.payload_length
    show linkFrame _ m.payload = _
    unfold AuthorityMessage.payload posFields causeField bit
    cases m.point <;> cases m.stop <;> cases m.first <;> rfl
  · cases e <;> rfl
  · cases y <;> rfl
  · cases r <;> rfl
  · show linkFrame _ (bytesOfHalf cell ++ bytesInt32 k ++ bytes16 u) = _
    rw [bytesInt32_eq]
    rfl
  · refine ⟨s.buildPayload_eq, rfl, fun hl => ⟨s.buildPayload_length, ?_⟩, fun hp => ?_, fun front hf hr hne =>
      s.beaconPosition_spec hf hr hne⟩
    · rw [s.buildPayload_length]
      omega
    · unfold State.beaconPosition State.front?
      rw [hp]
      rfl

end Sys2Proof.Machine

/-!
PROOF. Bytes that arrive, frame by frame: requests and reports on the drive link (R156, R180), modem frames
and transponder reads (R182).
-/

namespace Sys2Proof.Machine

/-! ### The drive link between two frames (R156) -/

theorem State.setLink_idle {s : State} (h : s.linkIdle) : s.setLink { s.link with rx := [], rxCut := false } = s := by
  obtain ⟨hr, hc⟩ := h
  have hl : ({ s.link with rx := [], rxCut := false } : DriveLink) = s.link := by rw [← hr, ← hc]
  rw [hl]
  rfl

theorem State.linkBytes_idle {s : State} (h : s.linkIdle) (bytes : List Byte) : s.linkBytes bytes =
    (linkScan (bytes.length + 1) false bytes).1.foldl State.linkEvent (s.setLink { s.link with
      rx := (linkScan (bytes.length + 1) false bytes).2.1
      rxCut := (linkScan (bytes.length + 1) false bytes).2.2 }) := by
  obtain ⟨hr, hc⟩ := h
  unfold State.linkBytes
  rw [hr, hc]
  rfl

/-- A run of bytes that ends between two frames is the run of its events. -/
theorem State.linkBytes_whole {s : State} (h : s.linkIdle) {bytes : List Byte} {evs : List LinkEvent}
    (hscan : linkScan (bytes.length + 1) false bytes = (evs, [], false)) :
    s.linkBytes bytes = evs.foldl State.linkEvent s := by
  rw [State.linkBytes_idle h, hscan]
  dsimp only
  rw [State.setLink_idle h]

theorem State.exec_arrival {s : State} (hh : s.held = false) (bytes : List Byte) :
    exec (.driveLinkRequestArrival bytes) s = .next (s.linkBytes bytes) :=
  congrArg Host.Outcome.next (State.ifDue_of_due _ hh rfl)

theorem State.exec_report {s : State} (hh : s.held = false) (payload : List Byte) (crc : Half) :
    exec (.driveReport payload crc) s = .next (s.linkBytes (linkFrameWith 0x20#8 payload crc)) :=
  congrArg Host.Outcome.next (State.ifDue_of_due _ hh rfl)

/-- A frame whose head fails is counted, and the hunt goes on behind its sync byte. -/
theorem State.linkBytes_failed {s : State} (h : s.linkIdle) {bytes : List Byte} {k : Nat}
    (hf : linkHead bytes = some (.failed, k)) :
    s.linkBytes (0xA5#8 :: bytes) = (s.count .linkFramesRejected).linkBytes bytes := by
  rw [State.linkBytes_idle h, State.linkBytes_idle (s := s.count .linkFramesRejected) h, List.length_cons,
    linkScan_failed _ _ hf]
  rfl

/-- Bytes without a sync byte pass without effect. -/
theorem State.linkBytes_no_sync {s : State} (h : s.linkIdle) {bytes : List Byte} (hb : ∀ b ∈ bytes, b ≠ 0xA5#8) :
    s.linkBytes bytes = s :=
  State.linkBytes_whole h (linkScan_no_sync hb _ (Nat.lt_succ_self _) false)

theorem linkHead_tooLong {type n : Byte} (h : 250 < n.toNat) (rest : List Byte) :
    linkHead (type :: n :: rest) = some (.failed, 0) := if_pos h

/-- While bytes of a frame are missing its head says so. -/
theorem linkHead_take {type : Byte} {payload : List Byte} (hp : payload.length ≤ 250) {k : Nat} (crc : Half)
    (hk : k < payload.length + 4) :
    linkHead ((type :: byteOf payload.length :: (payload ++ bytesOfHalf crc)).take k) = none := by
  have hn : (byteOf payload.length).toNat = payload.length := byteOf_toNat (by omega)
  match k, hk with
  | 0, _ => rfl
  | 1, _ => rfl
  | k + 2, hk =>
    show linkHead (type :: byteOf payload.length :: (payload ++ bytesOfHalf crc).take k) = none
    unfold linkHead
    dsimp only
    rw [hn, if_neg (Nat.not_lt.mpr hp), if_pos (Nat.lt_of_le_of_lt (List.length_take_le _ _) (by omega))]

/-- Settles O33: by the outcome of the frame's head, and for a torn frame by the hunt that goes on behind it. -/
theorem framesJoinTheIntakeOrAreCounted : Obligations.FramesJoinTheIntakeOrAreCounted := by
  intro s type payload crc hh hidle hp
  have good (ht : type ≠ 0x20#8) : s.linkBytes (linkFrame type payload) = s.arrive ⟨type, payload⟩ := by
    have hscan := linkScan_frame (f := ⟨type, payload⟩) hp (fun h => absurd h ht) (linkFrame type payload).length []
    rw [List.append_nil, linkScan_no_sync (bytes := []) nofun (linkFrame type payload).length (Nat.succ_pos _)] at hscan
    rw [State.linkBytes_whole hidle hscan]
    exact if_neg ht
  have counted {bytes : List Byte} (hb : ∀ b ∈ bytes, b ≠ 0xA5#8) :
      (s.count .linkFramesRejected).linkBytes bytes = s.count .linkFramesRejected :=
    State.linkBytes_no_sync (s := s.count .linkFramesRejected) hidle hb
  have arrival (bytes : List Byte) : exec (.driveLinkRequestArrival bytes) (s.count .linkFramesRejected)
      = .next ((s.count .linkFramesRejected).linkBytes bytes) := State.exec_arrival (s := s.count .linkFramesRejected) hh bytes
  have torn (more : List Byte) (hc : crc ≠ crc16 (type :: byteOf payload.length :: payload)) :
      linkHead (type :: byteOf payload.length :: (payload ++ bytesOfHalf crc) ++ more) = some (.failed, 0) :=
    (linkHead_frame type payload crc more hp).trans (if_pos (.inl hc))
  refine ⟨fun ht hi => ?_, fun ht hi => ?_, fun hb hbad => ?_, ⟨fun more hc => ⟨fun hb => ?_, ?_⟩,
    fun n more hn => ⟨fun ht => ?_, ?_⟩⟩, fun k ht hk => ?_⟩
  · rw [State.exec_arrival hh, good ht]
    exact congrArg Host.Outcome.next (if_pos hi)
  · rw [State.exec_arrival hh, good ht]
    exact congrArg Host.Outcome.next (if_neg (Nat.not_lt.mpr hi))
  · have hhead : linkHead (0x20#8 :: byteOf payload.length :: (payload ++ bytesOfHalf crc)) = some (.failed, 0) := by
      have := linkHead_frame 0x20#8 payload crc [] hp
      rw [List.append_nil, if_pos (hbad.imp id fun h => ⟨rfl, h⟩)] at this
      exact this
    rw [State.exec_report hh, linkFrameWith, State.linkBytes_failed hidle hhead,
      counted (List.forall_mem_cons.mpr ⟨by decide, hb⟩)]
    rfl
  · have hhead := torn [] hc
    rw [List.append_nil] at hhead
    rw [State.exec_arrival hh, State.linkBytes_failed hidle hhead, counted hb]
    rfl
  · rw [State.exec_arrival hh]
    exact (congrArg Host.Outcome.next (State.linkBytes_failed hidle (torn more hc))).trans (arrival _).symm
  · rw [State.exec_arrival hh, State.linkBytes_failed hidle (linkHead_tooLong hn []), counted]
    · rfl
    · refine List.forall_mem_cons.mpr ⟨ht, List.forall_mem_singleton.mpr fun h => ?_⟩
      rw [h] at hn
      exact absurd hn (by decide)
  · rw [State.exec_arrival hh]
    exact (congrArg Host.Outcome.next (State.linkBytes_failed hidle (linkHead_tooLong hn more))).trans (arrival _).symm
  · rw [State.exec_arrival hh, State.linkBytes_idle hidle]
    have hrx : s.link.rxCut = false := hidle.2
    match k, hk with
    | 0, _ => exact congrArg (fun c => Host.Outcome.next (s.setLink { s.link with rx := [], rxCut := c })) hrx.symm
    | k + 1, hk =>
      have hlen : k < payload.length + 4 := by
        rw [linkFrame, List.length_cons, List.length_append] at hk
        simp only [List.length_cons, bytesOfHalf_length] at hk
        omega
      have htake : (linkFrame type payload).take (k + 1) = 0xA5#8 :: (type :: byteOf payload.length :: (payload
          ++ bytesOfHalf (crc16 (type :: byteOf payload.length :: payload)))).take k := rfl
      rw [htake, List.length_cons, linkScan_missing _ _ (linkHead_take hp _ hlen)]
      exact congrArg (fun c => Host.Outcome.next (s.setLink { s.link with rx := _, rxCut := c })) hrx.symm

/-! ### The air port between two frames (R182) -/

theorem State.setBeacon_rx {s : State} (h : s.beacon.rx = []) : s.setBeacon { s.beacon with rx := [] } = s := by
  have hb : ({ s.beacon with rx := [] } : BeaconUnit) = s.beacon := by rw [← h]
  rw [hb]
  rfl

/-- A run of modem bytes that ends between two frames is the run of its events. -/
theorem State.airBytes_whole {s : State} (hm : s.ctl.mode ≠ .init) (hr : s.beacon.rx = []) {bytes : List Byte}
    {evs : List AirEvent} (hscan : airScan (bytes.length + 1) bytes = (evs, [])) :
    s.airBytes bytes = evs.foldl (fun t k => t.event fun w => w.airEvent k) s := by
  unfold State.airBytes
  rw [if_neg hm, hr]
  dsimp only [List.nil_append]
  rw [hscan]
  dsimp only
  rw [State.setBeacon_rx hr]

/-- A whole modem frame is handled by its kind. -/
theorem State.airBytes_frame {s : State} (hm : s.ctl.mode ≠ .init) (hr : s.beacon.rx = []) {kind : Byte}
    {body : List Byte} (hb : body.length ≤ 250) :
    s.airBytes (modemFrame kind body) = s.event fun w => w.airEvent (.frame kind body) := by
  have hscan := airScan_frame (kind := kind) hb (modemFrame kind body).length []
  rw [List.append_nil, show airScan (modemFrame kind body).length [] = ([], []) from rfl] at hscan
  rw [State.airBytes_whole hm hr hscan]
  rfl

/-- The event that only counts a rejected beacon. -/
theorem State.event_rejected {s : State} (hc : s.noticesComplete) {f : Work → Work}
    (hf : f (Work.begin s) = (Work.begin s).on (·.count .beaconsRejected)) :
    s.event f = (s.count .beaconsRejected).transmit := State.event_plain hf rfl hc

/-- Settles O54. -/
theorem otherModemFramesAreRejected : Obligations.OtherModemFramesAreRejected := by
  intro s kind hh hc
  have air (bytes : List Byte) : exec (.modemFrameOtherKind bytes) s = .next (s.airBytes bytes) :=
    congrArg Host.Outcome.next (State.ifDue_of_due _ hh rfl)
  refine ⟨fun bytes hm => ?_, fun body hm hr hb h2 h3 => ?_, fun n hm hr hn h3 => ?_⟩
  · rw [air]
    exact congrArg Host.Outcome.next (if_pos hm)
  · rw [air, State.airBytes_frame hm hr hb]
    exact congrArg Host.Outcome.next (State.event_rejected hc ((if_neg h2).trans (if_neg h3)))
  · have hne : n ≠ 0x3C#8 := fun h => absurd (h ▸ hn) (by decide)
    have hscan : airScan ([0x3C#8, kind, n].length + 1) [0x3C#8, kind, n] = ([.tooLong], []) := by
      simp [airScan, hn, h3, hne]
    rw [air, State.airBytes_whole hm hr hscan]
    exact congrArg Host.Outcome.next (State.event_rejected (f := fun w => w.airEvent .tooLong) hc rfl)

/-! ### The reader line between two frames (R182) -/

/-- A whole reader frame is one transponder read. -/
theorem State.readerBytes_frame {s : State} (hm : s.ctl.mode ≠ .init) (hr : s.readerRx = []) (cell : CellId) :
    s.readerBytes (readerFrame cell) = s.event fun w => w.read cell := by
  have hscan := readerScan_frame cell (readerFrame cell).length []
  rw [List.append_nil, show readerScan (readerFrame cell).length [] = ([], []) from rfl] at hscan
  have hs : ({ s with readerRx := [] } : State) = s := by rw [← hr]
  unfold State.readerBytes
  rw [if_neg hm, hr]
  dsimp only [List.nil_append]
  rw [hscan, hs]
  rfl

theorem State.readerBytes_init {s : State} (hm : s.ctl.mode = .init) (hr : s.readerRx = []) (cell : CellId) :
    s.readerBytes (readerFrame cell) = s := by
  have hscan := readerScan_frame cell (readerFrame cell).length []
  rw [List.append_nil, show readerScan (readerFrame cell).length [] = ([], []) from rfl] at hscan
  unfold State.readerBytes
  rw [if_pos hm, hr]
  dsimp only [List.nil_append]
  rw [hscan, ← hr]

end Sys2Proof.Machine

/-!
PROOF. Beacons and the configuration record read back: the fields of a beacon (R129, R134, R181), the checks
of R69, and the reading of the configuration memory (R172, R183, R184).
-/

namespace Sys2Proof.Machine

/-! ### The claims of a beacon -/

theorem optionalField_zero_crane {q : Option Nat} (h : ∀ n, q = some n → 1 ≤ n ∧ n ≤ 65535) :
    optionalField 0 (BitVec.ofNat 16 (q.getD 0)) = q := by
  unfold optionalField
  cases q with
  | none => rfl
  | some n =>
    obtain ⟨h1, h2⟩ := h n rfl
    have hn : (BitVec.ofNat 16 n).toNat = n := by
      rw [BitVec.toNat_ofNat]
      exact Nat.mod_eq_of_lt (by omega)
    rw [Option.getD_some, hn, if_neg (by omega)]

theorem optionalField_zero (h : Half) : optionalField 0 h = if h = 0#16 then none else some h.toNat := by
  unfold optionalField
  by_cases h0 : h = 0#16
  · rw [if_pos h0, if_pos (by rw [h0]; rfl)]
  · exact (if_neg fun ht => h0 (BitVec.eq_of_toNat_eq ht)).trans (if_neg h0).symm

theorem rawClaims_cons (n : Nat) (cell : CellId) (st : Byte) (q : Half) (rest : List Byte) :
    rawClaims (n + 1) (bytesOfHalf cell ++ [st] ++ bytesOfHalf q ++ rest)
      = ⟨cell, st, optionalField 0 q⟩ :: rawClaims n rest := by
  show ⟨half _ _, st, optionalField 0 (half _ _)⟩ :: rawClaims n rest = _
  rw [half_bytes, half_bytes]

/-- The claims of a beacon are read in the order they are written, whatever follows them. -/
theorem rawClaims_fields {α : Type} (cell : α → CellId) (st : α → Byte) (q : α → Half) (cs : List α)
    (more : List Byte) :
    rawClaims cs.length ((cs.map fun c => bytesOfHalf (cell c) ++ [st c] ++ bytesOfHalf (q c)).flatten ++ more)
      = cs.map fun c => ⟨cell c, st c, optionalField 0 (q c)⟩ := by
  induction cs with
  | nil => unfold rawClaims; rfl
  | cons c cs ih =>
    rw [List.map_cons, List.flatten_cons, List.append_assoc, List.length_cons, rawClaims_cons, ih, List.map_cons]

theorem fields_length {α : Type} (g : α → List Byte) (h : ∀ a, (g a).length = 5) (as : List α) :
    (as.map g).flatten.length = 5 * as.length := by
  induction as with
  | nil => rfl
  | cons a as ih =>
    rw [List.map_cons, List.flatten_cons, List.length_append, ih, h, List.length_cons]
    omega

/-! ### Reading a beacon (R134) -/

theorem take_body {α : Type} (body : List α) {tail : List α} (h : tail.length = 2) :
    (body ++ tail).take ((body ++ tail).length - 2) = body ∧ (body ++ tail).drop ((body ++ tail).length - 2) = tail := by
  have hl : (body ++ tail).length - 2 = body.length := by
    rw [List.length_append, h]
    omega
  rw [hl, List.take_left, List.drop_left]
  exact ⟨rfl, rfl⟩

/-- A payload of the right form and CRC is read field by field. -/
theorem readBeacon_body (id seq mode urg dfr p1 p0 o1 o0 v1 v0 n : Byte) {rest : List Byte}
    (h : rest.length = 5 * n.toNat) {body : List Byte}
    (hb : body = 0xB1#8 :: id :: seq :: mode :: urg :: dfr :: p1 :: p0 :: o1 :: o0 :: v1 :: v0 :: n :: rest) :
    readBeacon (body ++ bytesOfHalf (crc16 body)) = some
      { id := id, seq := seq, mode := mode, urgency := urg.toNat, deferral := dfr.toNat
        posCell := half p1 p0, posOffset := (half o1 o0).toNat, speed := (half v1 v0).toNat
        claims := rawClaims n.toNat (rest ++ bytesOfHalf (crc16 body)) } := by
  obtain ⟨htake, hdrop⟩ := take_body body (bytesOfHalf_length (crc16 body))
  have hlen : (body ++ bytesOfHalf (crc16 body)).length = 15 + 5 * n.toNat := by
    rw [List.length_append, bytesOfHalf_length, hb]
    simp only [List.length_cons]
    omega
  have hcons : body ++ bytesOfHalf (crc16 body) = 0xB1#8 :: id :: seq :: mode :: urg :: dfr :: p1 :: p0 :: o1 :: o0
      :: v1 :: v0 :: n :: (rest ++ bytesOfHalf (crc16 body)) := by
    have split (tail : List Byte) : body ++ tail = 0xB1#8 :: id :: seq :: mode :: urg :: dfr :: p1 :: p0 :: o1 :: o0
        :: v1 :: v0 :: n :: (rest ++ tail) := by
      rw [hb]
      rfl
    exact split _
  rw [hcons] at htake hdrop hlen ⊢
  unfold readBeacon
  dsimp only
  rw [if_neg (Classical.not_not.mpr rfl), if_neg (Classical.not_not.mpr hlen), htake, hdrop, if_neg (Classical.not_not.mpr rfl)]

theorem exists_thirteen {α : Type} (l : List α) (h : 13 ≤ l.length) :
    ∃ a b c d e f g i j k m n o rest,
      l = a :: b :: c :: d :: e :: f :: g :: i :: j :: k :: m :: n :: o :: rest := by
  obtain ⟨a, l, rfl⟩ := List.exists_cons_of_length_pos (l := l) (by omega)
  obtain ⟨b, l, rfl⟩ := List.exists_cons_of_length_pos (l := l) (by simp only [List.length_cons] at h; omega)
  obtain ⟨c, l, rfl⟩ := List.exists_cons_of_length_pos (l := l) (by simp only [List.length_cons] at h; omega)
  obtain ⟨d, l, rfl⟩ := List.exists_cons_of_length_pos (l := l) (by simp only [List.length_cons] at h; omega)
  obtain ⟨e, l, rfl⟩ := List.exists_cons_of_length_pos (l := l) (by simp only [List.length_cons] at h; omega)
  obtain ⟨f, l, rfl⟩ := List.exists_cons_of_length_pos (l := l) (by simp only [List.length_cons] at h; omega)
  obtain ⟨g, l, rfl⟩ := List.exists_cons_of_length_pos (l := l) (by simp only [List.length_cons] at h; omega)
  obtain ⟨i, l, rfl⟩ := List.exists_cons_of_length_pos (l := l) (by simp only [List.length_cons] at h; omega)
  obtain ⟨j, l, rfl⟩ := List.exists_cons_of_length_pos (l := l) (by simp only [List.length_cons] at h; omega)
  obtain ⟨k, l, rfl⟩ := List.exists_cons_of_length_pos (l := l) (by simp only [List.length_cons] at h; omega)
  obtain ⟨m, l, rfl⟩ := List.exists_cons_of_length_pos (l := l) (by simp only [List.length_cons] at h; omega)
  obtain ⟨n, l, rfl⟩ := List.exists_cons_of_length_pos (l := l) (by simp only [List.length_cons] at h; omega)
  obtain ⟨o, l, rfl⟩ := List.exists_cons_of_length_pos (l := l) (by simp only [List.length_cons] at h; omega)
  exact ⟨a, b, c, d, e, f, g, i, j, k, m, n, o, l, rfl⟩

/-- Checks 1 to 3 of R134. -/
theorem readBeacon_iff {payload : List Byte} : (∃ b, readBeacon payload = some b) ↔
    ∃ body n, payload = body ++ bytesOfHalf (crc16 body) ∧ body.head? = some 0xB1#8
      ∧ body[12]? = some n ∧ payload.length = 15 + 5 * n.toNat := by
  constructor
  · rintro ⟨b, h⟩
    unfold readBeacon at h
    split at h
    next kind id seq mode urg dfr p1 p0 o1 o0 v1 v0 n rest =>
      split at h
      · cases h
      next hkind =>
        split at h
        · cases h
        next hlen =>
          split at h
          · cases h
          next hcrc =>
            have hlen := Classical.not_not.mp hlen
            obtain ⟨k, hk⟩ : ∃ k, (kind :: id :: seq :: mode :: urg :: dfr :: p1 :: p0 :: o1 :: o0 :: v1 :: v0 :: n
                :: rest).length - 2 = k + 13 := ⟨5 * n.toNat, by omega⟩
            refine ⟨(kind :: id :: seq :: mode :: urg :: dfr :: p1 :: p0 :: o1 :: o0 :: v1 :: v0 :: n :: rest).take
              ((kind :: id :: seq :: mode :: urg :: dfr :: p1 :: p0 :: o1 :: o0 :: v1 :: v0 :: n :: rest).length - 2),
              n, ?_, ?_, ?_, hlen⟩
            · rw [Classical.not_not.mp hcrc, List.take_append_drop]
            · rw [hk, Classical.not_not.mp hkind]
              rfl
            · rw [hk]
              rfl
    · cases h
  · rintro ⟨body, n, rfl, hhead, hn, hlen⟩
    rw [List.length_append, bytesOfHalf_length] at hlen
    obtain ⟨a, b, c, d, e, f, g, i, j, k, m, o, n', rest, rfl⟩ := exists_thirteen body (by omega)
    obtain rfl : a = 0xB1#8 := Option.some.inj hhead
    obtain rfl : n' = n := Option.some.inj hn
    simp only [List.length_cons] at hlen
    exact ⟨_, readBeacon_body b c d e f g i j k m o n' (by omega) rfl⟩

/-! ### The checks of R69 -/

theorem Mode.ofBeacon_spec (b : Byte) : (Mode.ofBeacon b).elim (¬ (1 ≤ b.toNat ∧ b.toNat ≤ 4))
    (fun m => m.code = b.toNat ∧ 1 ≤ b.toNat ∧ b.toNat ≤ 4) := by
  unfold Mode.ofBeacon
  split
  next h => exact ⟨h.symm, by omega, by omega⟩
  next h => exact ⟨h.symm, by omega, by omega⟩
  next h => exact ⟨h.symm, by omega, by omega⟩
  next h => exact ⟨h.symm, by omega, by omega⟩
  next h1 h2 h3 h4 =>
    show ¬ (1 ≤ b.toNat ∧ b.toNat ≤ 4)
    have h : b.toNat ≠ 1 ∧ b.toNat ≠ 2 ∧ b.toNat ≠ 3 ∧ b.toNat ≠ 4 := ⟨h1, h2, h3, h4⟩
    omega

theorem ClaimState.ofByte_spec (b : Byte) : (ClaimState.ofByte b).elim (¬ (1 ≤ b.toNat ∧ b.toNat ≤ 3))
    (fun st => st.code = b.toNat ∧ 1 ≤ b.toNat ∧ b.toNat ≤ 3) := by
  unfold ClaimState.ofByte
  split
  next h => exact ⟨h.symm, by omega, by omega⟩
  next h => exact ⟨h.symm, by omega, by omega⟩
  next h => exact ⟨h.symm, by omega, by omega⟩
  next h1 h2 h3 =>
    show ¬ (1 ≤ b.toNat ∧ b.toNat ≤ 3)
    have h : b.toNat ≠ 1 ∧ b.toNat ≠ 2 ∧ b.toNat ≠ 3 := ⟨h1, h2, h3⟩
    omega

theorem Mode.ofBeacon_code {m : Mode} (h : m ≠ .init) : Mode.ofBeacon (byteOf m.code) = some m := by
  cases m with
  | init => exact absurd rfl h
  | _ => rfl

theorem ClaimState.ofByte_code (st : ClaimState) : ClaimState.ofByte (byteOf st.code) = some st := by
  cases st <;> rfl

/-- Claims whose states are good are taken over; one bad state refuses them all. -/
theorem peerClaims_iff (cs : List RawClaim) :
    (peerClaims cs).elim (¬ ∀ c ∈ cs, 1 ≤ c.state.toNat ∧ c.state.toNat ≤ 3)
      (fun ps => (∀ c ∈ cs, 1 ≤ c.state.toNat ∧ c.state.toNat ≤ 3)
        ∧ ps.map (fun p => (p.cell, p.state.code, p.crane)) = cs.map fun c => (c.cell, c.state.toNat, c.crane)) := by
  induction cs with
  | nil => exact ⟨nofun, rfl⟩
  | cons c cs ih =>
    have hst := ClaimState.ofByte_spec c.state
    unfold peerClaims
    cases hs : ClaimState.ofByte c.state with
    | none =>
      rw [hs] at hst
      exact fun h => hst (h c List.mem_cons_self)
    | some st =>
      rw [hs] at hst
      obtain ⟨hcode, hrange⟩ := hst
      cases hp : peerClaims cs with
      | none =>
        rw [hp] at ih
        exact fun h => ih fun x hx => h x (List.mem_cons_of_mem _ hx)
      | some ps =>
        rw [hp] at ih
        refine ⟨List.forall_mem_cons.mpr ⟨hrange, ih.1⟩, ?_⟩
        rw [List.map_cons, List.map_cons, ih.2, hcode]

/-- What checks 1 to 4 of R69 ask of a beacon's fields. -/
def Beacon.good (b : Beacon) : Prop :=
  1 ≤ b.id.toNat ∧ b.id.toNat ≤ 250 ∧ b.claims.length ≤ 12
    ∧ 1 ≤ b.mode.toNat ∧ b.mode.toNat ≤ 4 ∧ b.urgency ≤ 3 ∧ b.deferral ≤ 7
    ∧ (∀ c ∈ b.claims, 1 ≤ c.state.toNat ∧ c.state.toNat ≤ 3 ∧ c.cell ≠ noCell)
    ∧ (b.claims.map (·.cell)).Nodup

/-- The entry that a beacon with these mode and claims makes (R65, R66). -/
def Beacon.entry (b : Beacon) (m : Mode) (cs : List PeerClaim) (now : Nat) : PeerEntry :=
  { id := b.id, seq := b.seq, mode := m, urgency := b.urgency, deferral := b.deferral
    posCell := b.posCell, posOffset := b.posOffset
    speed := min Config.maxReportSpeed b.speed, age := .fresh, lastHeard := now, claims := cs }

theorem checkBeacon_of_good {b : Beacon} (h : b.good) {m : Mode} (hm : Mode.ofBeacon b.mode = some m)
    {cs : List PeerClaim} (hc : peerClaims b.claims = some cs) (now : Nat) :
    checkBeacon b now = some (b.entry m cs now) := by
  obtain ⟨h1, h250, hlen, -, -, hu, hd, hcs, hnd⟩ := h
  have hcells : ((b.claims.any fun c => c.cell == noCell) || !noRepeat (b.claims.map (·.cell))) = false := by
    rw [Bool.or_eq_false_iff, List.any_eq_false, noRepeat_iff.mpr hnd]
    exact ⟨fun c hx hn => (hcs c hx).2.2 (beq_iff_eq.mp hn), rfl⟩
  unfold checkBeacon
  rw [if_neg (by omega), if_neg (show ¬ Config.maxClaims < _ from Nat.not_lt.mpr hlen), hm, hc]
  dsimp only
  rw [if_neg (by omega), hcells]
  rfl

theorem Beacon.good_of_check {b : Beacon} {now : Nat} {e : PeerEntry} (h : checkBeacon b now = some e) : b.good := by
  have hmode := Mode.ofBeacon_spec b.mode
  have hclaims := peerClaims_iff b.claims
  unfold checkBeacon at h
  split at h
  · cases h
  next hid =>
    split at h
    · cases h
    next hlen =>
      split at h
      next m cs hm hc =>
        rw [hm] at hmode
        rw [hc] at hclaims
        split at h
        · cases h
        next hu =>
          split at h
          · cases h
          next hcells =>
            obtain ⟨hno, hrep⟩ := Bool.or_eq_false_iff.mp (Bool.eq_false_iff.mpr hcells)
            refine ⟨by omega, by omega, Nat.not_lt.mp hlen, hmode.2.1, hmode.2.2, by omega, by omega, fun c hx => ?_, ?_⟩
            · exact ⟨(hclaims.1 c hx).1, (hclaims.1 c hx).2, fun hn =>
                List.any_eq_false.mp hno c hx (beq_iff_eq.mpr hn)⟩
            · exact noRepeat_iff.mp (by simpa using hrep)
      · cases h

/-- Settles O27: the reading by the payload's form, the checks by the spec of each field's decoder. -/
theorem beaconFieldChecks : Obligations.BeaconFieldChecks := by
  refine ⟨fun payload => readBeacon_iff, fun id seq mode urg dfr o1 o0 v1 v0 cell claims hl => ?_, fun b now =>
    ⟨fun hbad => ?_, fun hgood => ?_⟩⟩
  · have hn : (byteOf claims.length).toNat = claims.length := byteOf_toNat hl
    have hlen : (claims.map fun c => bytesOfHalf c.1 ++ [c.2.1] ++ bytesOfHalf c.2.2).flatten.length
        = 5 * (byteOf claims.length).toNat := by
      rw [fields_length _ (fun _ => rfl), hn]
    refine (readBeacon_body id seq mode urg dfr _ _ o1 o0 v1 v0 _ hlen rfl).trans ?_
    rw [half_bytes, hn, rawClaims_fields (fun c : CellId × Byte × Half => c.1) (·.2.1) (·.2.2)]
    simp only [optionalField_zero]
    rfl
  · cases h : checkBeacon b now with
    | none => rfl
    | some e => exact absurd (Beacon.good_of_check h) hbad
  · have hgood : b.good := hgood
    have hmode := Mode.ofBeacon_spec b.mode
    have hclaims := peerClaims_iff b.claims
    obtain ⟨-, -, -, hm1, hm4, -, -, hcs, -⟩ := hgood
    cases hm : Mode.ofBeacon b.mode with
    | none => rw [hm] at hmode; exact absurd ⟨hm1, hm4⟩ hmode
    | some m =>
      cases hc : peerClaims b.claims with
      | none => rw [hc] at hclaims; exact absurd (fun c hx => ⟨(hcs c hx).1, (hcs c hx).2.1⟩) hclaims
      | some cs =>
        rw [hm] at hmode
        rw [hc] at hclaims
        exact ⟨_, checkBeacon_of_good hgood hm hc now, rfl, rfl, hmode.1, rfl, rfl, rfl, rfl, rfl, rfl, rfl, hclaims.2⟩

/-! ### A built beacon at another station -/

theorem State.claims_cells {s : State} (h : s.structureOk) :
    (∀ c ∈ s.claims.list, c.cell ≠ noCell) ∧ (s.claims.list.map (·.cell)).Nodup ∧ s.claims.list.length ≤ 12 := by
  obtain ⟨-, ⟨-, -, -, -, -, hentries, hnd⟩, ⟨hlen, -, -, hcells, -⟩, -⟩ := h
  refine ⟨fun c hc => ?_, ?_, hlen⟩
  · have : c.cell ∈ s.claims.list.map (·.cell) := List.mem_map_of_mem hc
    rw [hcells] at this
    obtain ⟨e, he, heq⟩ := List.mem_map.mp this
    rw [← heq]
    exact (hentries e (List.mem_of_mem_take he)).1
  · rw [hcells]
    exact hnd.sublist ((List.take_sublist _ _).map _)

/-- The fields of the beacon that is built now, as another station reads them. -/
def State.builtBeacon (s : State) : Beacon where
  id := s.config.straps.stationId
  seq := s.beacon.seq
  mode := byteOf s.ctl.mode.code
  urgency := s.claims.urgency
  deferral := s.claims.deferral
  posCell := s.beaconPosition.1
  posOffset := min 65535 s.beaconPosition.2
  speed := s.pos.speed
  claims := s.claims.list.map fun c => ⟨c.cell, byteOf c.state.code, c.crane⟩

theorem readBeacon_built {s : State} (hb : s.boundsOk) (hs : s.structureOk)
    (hq : ∀ c ∈ s.claims.list, ∀ q, c.crane = some q → 1 ≤ q ∧ q ≤ 65535) :
    readBeacon s.buildPayload = some s.builtBeacon := by
  obtain ⟨hurg, hdfr, -, hspeed, -⟩ := hb
  obtain ⟨-, -, hlen⟩ := State.claims_cells hs
  have hn : (byteOf s.claims.list.length).toNat = s.claims.list.length := byteOf_toNat (by omega)
  have field {n : Nat} (h : n ≤ 65535) : (BitVec.ofNat 16 n).toNat = n := by
    rw [BitVec.toNat_ofNat]
    exact Nat.mod_eq_of_lt (by omega)
  have hrest : (s.claims.list.map fun c => claimField c.cell c.state c.crane).flatten.length
      = 5 * (byteOf s.claims.list.length).toNat := by
    rw [claimFields_length, hn]
  have hcranes : (s.claims.list.map fun c =>
      (⟨c.cell, byteOf c.state.code, optionalField 0 (BitVec.ofNat 16 (c.crane.getD 0))⟩ : RawClaim))
      = s.builtBeacon.claims :=
    List.map_congr_left fun c hc => by rw [optionalField_zero_crane (hq c hc)]
  rw [s.buildPayload_eq]
  refine (readBeacon_body _ _ _ _ _ _ _ _ _ _ _ _ hrest rfl).trans ?_
  rw [half_bytes, half_bytes, half_bytes, byteOf_toNat (by omega), byteOf_toNat (by omega), field (Nat.min_le_left _ _),
    field (by omega), hn]
  have hraw := rawClaims_fields (fun c : Claim => c.cell) (fun c => byteOf c.state.code)
    (fun c => BitVec.ofNat 16 (c.crane.getD 0)) s.claims.list (bytesOfHalf (crc16 s.beaconBody))
  rw [hcranes] at hraw
  exact congrArg (fun cs => some { s.builtBeacon with claims := cs }) hraw

theorem peerClaims_built (cs : List Claim) :
    peerClaims (cs.map fun c => ⟨c.cell, byteOf c.state.code, c.crane⟩) = some (cs.map fun c => ⟨c.cell, c.state, c.crane⟩) := by
  induction cs with
  | nil => rfl
  | cons c cs ih =>
    rw [List.map_cons, peerClaims, ih, ClaimState.ofByte_code, List.map_cons]

/-- Settles O26: the fields of the built beacon meet each check by the invariants. -/
theorem builtBeaconPassesTheChecks : Obligations.BuiltBeaconPassesTheChecks := by
  intro s now h1 h250 hm hb hs hq
  refine ⟨s.builtBeacon, readBeacon_built hb hs hq, ?_⟩
  obtain ⟨hurg, hdfr, -, hspeed, -⟩ := hb
  obtain ⟨hcell, hnd, hlen⟩ := State.claims_cells hs
  have hmode := Mode.ofBeacon_spec (byteOf s.ctl.mode.code)
  rw [Mode.ofBeacon_code hm] at hmode
  have hgood : s.builtBeacon.good := by
    refine ⟨h1, h250, by rw [State.builtBeacon, List.length_map]; exact hlen, hmode.2.1, hmode.2.2, hurg, hdfr,
      fun x hx => ?_, ?_⟩
    · obtain ⟨c, hc, rfl⟩ := List.mem_map.mp hx
      have hst := ClaimState.ofByte_spec (byteOf c.state.code)
      rw [ClaimState.ofByte_code] at hst
      exact ⟨hst.2.1, hst.2.2, hcell c hc⟩
    · rw [State.builtBeacon, List.map_map]
      exact hnd
  rw [checkBeacon_of_good hgood (Mode.ofBeacon_code hm) (peerClaims_built _), Beacon.entry]
  refine congrArg some ?_
  rw [PeerEntry.mk.injEq]
  exact ⟨rfl, rfl, rfl, rfl, rfl, rfl, rfl, Nat.min_eq_right hspeed, rfl, rfl, rfl⟩

end Sys2Proof.Machine

/-!
PROOF. The reading of the configuration memory (R172, R183, R184) and the parameters of a load (R173, R174).
-/

namespace Sys2Proof.Machine

/-! ### Pairs and classes of a record -/

theorem append_toNat {w v : Nat} (a : BitVec w) (b : BitVec v) : (a ++ b).toNat = a.toNat * 2 ^ v + b.toNat := by
  rw [BitVec.toNat_append, ← Nat.shiftLeft_add_eq_or_of_lt b.isLt, Nat.shiftLeft_eq]

theorem word32_bytes32 {n : Nat} (h : n < 4294967296) :
    word32 (byteOf (n / 16777216)) (byteOf (n / 65536)) (byteOf (n / 256)) (byteOf n) = n := by
  unfold word32 byteOf
  simp only [append_toNat, BitVec.toNat_ofNat]
  omega

theorem ParamId.ofByte_index (p : ParamId) : ParamId.ofByte (byteOf (ParamId.all.idxOf p + 1)) = some p := by
  cases p <;> decide

/-- The only ids that name no parameter are 0 and those above 18 (R180). -/
theorem ParamId.ofByte_eq_none {b : Byte} (h : b = 0#8 ∨ 18 < b.toNat) : ParamId.ofByte b = none := by
  unfold ParamId.ofByte
  obtain rfl | h := h
  · rfl
  · split
    case h_19 => rfl
    all_goals omega

theorem recordPairs_cons (n : Nat) (i : Byte) (v : BitVec 32) (rest : List Byte) :
    recordPairs (n + 1) (i :: bytes32 v.toNat ++ rest) =
      match ParamId.ofByte i, recordPairs n rest with
      | some p, some ps => some ((p, v.toNat) :: ps)
      | _, _ => none := by
  show recordPairs (n + 1) (i :: byteOf _ :: byteOf _ :: byteOf _ :: byteOf _ :: rest) = _
  rw [recordPairs, word32_bytes32 v.isLt] <;> rfl

theorem recordPairs_fields (pairs : List (ParamId × BitVec 32)) (more : List Byte) :
    recordPairs pairs.length
      ((pairs.map fun p => byteOf (ParamId.all.idxOf p.1 + 1) :: bytes32 p.2.toNat).flatten ++ more)
      = some (pairs.map fun p => (p.1, p.2.toNat)) := by
  induction pairs with
  | nil => rfl
  | cons p pairs ih =>
    rw [List.map_cons, List.flatten_cons, List.append_assoc, List.length_cons, recordPairs_cons, ih,
      ParamId.ofByte_index, List.map_cons]

/-- One id that names no parameter refuses the record (R172, outcome 8). -/
theorem recordPairs_unknown {pairs : List (Byte × BitVec 32)} (h : ∃ p ∈ pairs, p.1 = 0#8 ∨ 18 < p.1.toNat)
    (more : List Byte) :
    recordPairs pairs.length ((pairs.map fun p => p.1 :: bytes32 p.2.toNat).flatten ++ more) = none := by
  induction pairs with
  | nil => obtain ⟨p, hp, -⟩ := h; cases hp
  | cons p pairs ih =>
    obtain ⟨x, hx, hbad⟩ := h
    rw [List.map_cons, List.flatten_cons, List.append_assoc, List.length_cons, recordPairs_cons]
    obtain rfl | hx := List.mem_cons.mp hx
    · rw [ParamId.ofByte_eq_none hbad]
    · rw [ih ⟨x, hx, hbad⟩]
      cases ParamId.ofByte p.1 <;> rfl

theorem recordClasses_fields (classes : List (Half × Byte × Half)) (more : List Byte) :
    recordClasses classes.length
      ((classes.map fun c => bytesOfHalf c.1 ++ [c.2.1] ++ bytesOfHalf c.2.2).flatten ++ more)
      = classes.map fun c => classEntry c.1 c.2.1 c.2.2 := by
  induction classes with
  | nil => unfold recordClasses; rfl
  | cons c classes ih =>
    rw [List.map_cons, List.flatten_cons, List.append_assoc, List.length_cons, List.map_cons, ← ih]
    show classEntry (half _ _) _ (half _ _) :: _ = _
    rw [half_bytes, half_bytes]
    rfl

/-! ### The record whole (R172) -/

section
variable {l1 l0 p : Byte}

theorem readRecord_marked (body : List Byte) : readRecord (0x4A#8 :: 0x36#8 :: l1 :: l0 :: p :: body) =
    if 18 < p.toNat ∨ (half l1 l0).toNat ≠ 87 + 5 * p.toNat then .bad
    else if body.length < 82 + 5 * p.toNat then .bad
    else if bytesOfHalf (crc16 ((0x4A#8 :: 0x36#8 :: l1 :: l0 :: p :: body).take (85 + 5 * p.toNat)))
        ≠ ((0x4A#8 :: 0x36#8 :: l1 :: l0 :: p :: body).drop (85 + 5 * p.toNat)).take 2 then .bad
    else
      match recordPairs p.toNat body with
      | none => .bad
      | some ps => .record ps (recordClasses 16 (body.drop (5 * p.toNat))) := rfl

/-- A memory that holds a record's bytes whole is read by its CRC and its pairs. -/
theorem readRecord_whole {m : List Byte} (hm : m.length = 80 + 5 * p.toNat) (x : Half) (more : List Byte) :
    readRecord (0x4A#8 :: 0x36#8 :: l1 :: l0 :: p :: (m ++ bytesOfHalf x ++ more)) =
      if 18 < p.toNat ∨ (half l1 l0).toNat ≠ 87 + 5 * p.toNat then .bad
      else if x ≠ crc16 (0x4A#8 :: 0x36#8 :: l1 :: l0 :: p :: m) then .bad
      else
        match recordPairs p.toNat (m ++ bytesOfHalf x ++ more) with
        | none => .bad
        | some ps => .record ps (recordClasses 16 ((m ++ bytesOfHalf x ++ more).drop (5 * p.toNat))) := by
  have hheld : 85 + 5 * p.toNat = (0x4A#8 :: 0x36#8 :: l1 :: l0 :: p :: m).length := by
    simp only [List.length_cons]
    omega
  have hsplit : 0x4A#8 :: 0x36#8 :: l1 :: l0 :: p :: (m ++ bytesOfHalf x ++ more)
      = (0x4A#8 :: 0x36#8 :: l1 :: l0 :: p :: m) ++ (bytesOfHalf x ++ more) := by
    simp only [List.cons_append, List.append_assoc]
  have htake := List.take_left (l₁ := 0x4A#8 :: 0x36#8 :: l1 :: l0 :: p :: m) (l₂ := bytesOfHalf x ++ more)
  have hdrop := List.drop_left (l₁ := 0x4A#8 :: 0x36#8 :: l1 :: l0 :: p :: m) (l₂ := bytesOfHalf x ++ more)
  rw [readRecord_marked, hsplit, hheld, htake, hdrop]
  refine ite_congr rfl (fun _ => rfl) fun _ => ?_
  rw [if_neg (by simp only [List.length_append, bytesOfHalf_length]; omega)]
  refine ite_congr (propext (not_congr ?_)) (fun _ => rfl) fun _ => rfl
  exact bytesOfHalf_inj.trans eq_comm

end

theorem readRecord_unmarked {a b : Byte} (m : List Byte) (hf : a ++ b ≠ 0xFFFF#16) (hm : a ++ b ≠ 0x4A36#16) :
    readRecord (a :: b :: m) = .bad := (if_neg hf).trans (if_pos hm)

theorem lengthField_toNat {n : Nat} (h : n ≤ 18) :
    (half ((BitVec.ofNat 16 (87 + 5 * n)).extractLsb' 8 8) ((BitVec.ofNat 16 (87 + 5 * n)).extractLsb' 0 8)).toNat
      = 87 + 5 * n := by
  rw [half_bytes, BitVec.toNat_ofNat]
  exact Nat.mod_eq_of_lt (by omega)

/-- A record in form with a good CRC is read by its pairs alone. -/
theorem readRecord_good {n : Nat} (hn : n ≤ 18) {fields table body : List Byte} (hf : fields.length = 5 * n)
    (ht : table.length = 80) (more : List Byte)
    (hb : body = [0x4A#8, 0x36#8] ++ bytes16 (87 + 5 * n) ++ [byteOf n] ++ fields ++ table) :
    readRecord (body ++ bytesOfHalf (crc16 body) ++ more) =
      match recordPairs n (fields ++ (table ++ bytesOfHalf (crc16 body) ++ more)) with
      | none => .bad
      | some ps => .record ps (recordClasses 16 (table ++ bytesOfHalf (crc16 body) ++ more)) := by
  have hp : (byteOf n).toNat = n := byteOf_toNat (by omega)
  have hm : (fields ++ table).length = 80 + 5 * (byteOf n).toNat := by
    rw [List.length_append, hf, ht, hp]
    omega
  have hcons : body = 0x4A#8 :: 0x36#8 :: (BitVec.ofNat 16 (87 + 5 * n)).extractLsb' 8 8
      :: (BitVec.ofNat 16 (87 + 5 * n)).extractLsb' 0 8 :: byteOf n :: (fields ++ table) := by
    rw [hb, List.append_assoc]
    rfl
  have hwhole := readRecord_whole (l1 := (BitVec.ofNat 16 (87 + 5 * n)).extractLsb' 8 8)
    (l0 := (BitVec.ofNat 16 (87 + 5 * n)).extractLsb' 0 8) hm (crc16 body) more
  rw [← hcons, if_neg (by rw [hp, lengthField_toNat hn]; omega), if_neg (Classical.not_not.mpr rfl), hp] at hwhole
  have hassoc : fields ++ table ++ bytesOfHalf (crc16 body) ++ more
      = fields ++ (table ++ bytesOfHalf (crc16 body) ++ more) := by
    simp only [List.append_assoc]
  have hdrop : (fields ++ (table ++ bytesOfHalf (crc16 body) ++ more)).drop (5 * n)
      = table ++ bytesOfHalf (crc16 body) ++ more := by rw [← hf, List.drop_left]
  rw [hassoc, hdrop] at hwhole
  have hbytes : body ++ bytesOfHalf (crc16 body) ++ more
      = 0x4A#8 :: 0x36#8 :: (BitVec.ofNat 16 (87 + 5 * n)).extractLsb' 8 8
        :: (BitVec.ofNat 16 (87 + 5 * n)).extractLsb' 0 8 :: byteOf n
        :: (fields ++ (table ++ bytesOfHalf (crc16 body) ++ more)) := by
    rw [← hassoc]
    conv => lhs; rw [show body ++ bytesOfHalf (crc16 body) ++ more
      = body ++ (bytesOfHalf (crc16 body) ++ more) from List.append_assoc ..]
    generalize bytesOfHalf (crc16 body) = tail
    rw [hcons]
    simp only [List.cons_append, List.append_assoc]
  rw [hbytes]
  exact hwhole

/-- Settles O28: each outcome of R172 by the test that finds it. -/
theorem configurationMemoryRead : Obligations.ConfigurationMemoryRead := by
  refine ⟨fun pairs classes more hp hc => ?_, rfl, fun _ => rfl, fun a b m hf hm => readRecord_unmarked m hf hm,
    fun l1 l0 p m h => if_pos h, fun _ => rfl, fun m hm => ?_, fun l1 l0 p m h => ?_, fun l1 l0 p m x more hm hx => ?_,
    fun pairs table more hp ht hbad => ?_⟩
  · have hf := fields_length (fun p : ParamId × BitVec 32 => byteOf (ParamId.all.idxOf p.1 + 1) :: bytes32 p.2.toNat)
      (fun _ => rfl) pairs
    have ht := fields_length (fun c : Half × Byte × Half => bytesOfHalf c.1 ++ [c.2.1] ++ bytesOfHalf c.2.2)
      (fun _ => rfl) classes
    rw [hc] at ht
    dsimp only
    rw [readRecord_good hp hf ht more rfl, recordPairs_fields, List.append_assoc]
    dsimp only
    rw [← hc, recordClasses_fields]
  · match m, hm with
    | [], _ => rfl
    | [_], _ => rfl
    | [_, _], _ => rfl
  · rw [readRecord_marked, if_pos h]
    exact ite_self _
  · rw [readRecord_whole hm, if_pos hx]
    exact ite_self _
  · have hf := fields_length (fun p : Byte × BitVec 32 => p.1 :: bytes32 p.2.toNat) (fun _ => rfl) pairs
    dsimp only
    rw [readRecord_good hp hf ht more rfl, recordPairs_unknown hbad]

end Sys2Proof.Machine

/-!
PROOF. What claims, route and authority read of the state, and the recomputation in the terms of the
statements (R103, R107, R115 to R118).
-/

namespace Sys2Proof.Machine

/-! ### States alike in what is read -/

/-- Two states alike in all that claims, route and authority are computed from. -/
structure State.Alike (s t : State) : Prop where
  route : t.route = s.route
  pos : t.pos = s.pos
  claims : t.claims = s.claims
  peers : t.peers = s.peers
  config : t.config = s.config
  now : t.now = s.now
  mode : t.ctl.mode = s.ctl.mode
  overrun : t.auth.overrun = s.auth.overrun

namespace State.Alike
variable {s t : State}

theorem refl : s.Alike s := ⟨rfl, rfl, rfl, rfl, rfl, rfl, rfl, rfl⟩

theorem symm (h : s.Alike t) : t.Alike s :=
  ⟨h.route.symm, h.pos.symm, h.claims.symm, h.peers.symm, h.config.symm, h.now.symm, h.mode.symm, h.overrun.symm⟩

theorem trans {u : State} (h : s.Alike t) (h' : t.Alike u) : s.Alike u :=
  ⟨h'.route.trans h.route, h'.pos.trans h.pos, h'.claims.trans h.claims, h'.peers.trans h.peers,
    h'.config.trans h.config, h'.now.trans h.now, h'.mode.trans h.mode, h'.overrun.trans h.overrun⟩

theorem setLink (s : State) (l : DriveLink) : s.Alike (s.setLink l) := ⟨rfl, rfl, rfl, rfl, rfl, rfl, rfl, rfl⟩

theorem setBeacon (s : State) (b : BeaconUnit) : s.Alike (s.setBeacon b) := ⟨rfl, rfl, rfl, rfl, rfl, rfl, rfl, rfl⟩

theorem setClaims (h : s.Alike t) (k : ClaimEngine) : (s.setClaims k).Alike (t.setClaims k) :=
  ⟨h.route, h.pos, rfl, h.peers, h.config, h.now, h.mode, h.overrun⟩

theorem setRoute (h : s.Alike t) (r : RouteStore) : (s.setRoute r).Alike (t.setRoute r) :=
  ⟨rfl, h.pos, h.claims, h.peers, h.config, h.now, h.mode, h.overrun⟩

theorem setPos (h : s.Alike t) (p : PositionUnit) : (s.setPos p).Alike (t.setPos p) :=
  ⟨h.route, rfl, h.claims, h.peers, h.config, h.now, h.mode, h.overrun⟩

theorem setPeers (h : s.Alike t) (p : PeerTable) : (s.setPeers p).Alike (t.setPeers p) :=
  ⟨h.route, h.pos, h.claims, rfl, h.config, h.now, h.mode, h.overrun⟩

theorem front (h : s.Alike t) : t.front? = s.front? := by rw [State.front?, State.front?, h.pos, h.route]

theorem rear (h : s.Alike t) : t.rear? = s.rear? := by
  rw [State.rear?, State.rear?, h.pos, h.route, h.config]

theorem classOf (h : s.Alike t) (cell : CellId) : t.classOf cell = s.classOf cell := by
  rw [State.classOf, State.classOf, h.config]

theorem effectiveCap (h : s.Alike t) (e : RouteEntry) : t.effectiveCap e = s.effectiveCap e := by
  simp only [State.effectiveCap, h.classOf]

theorem reserved (h : s.Alike t) : t.reserved = s.reserved := by rw [State.reserved, State.reserved, h.claims]

theorem claimView (h : s.Alike t) : t.claimView = s.claimView := by rw [State.claimView, State.claimView, h.claims]

theorem restingAuthority (h : s.Alike t) : t.restingAuthority = s.restingAuthority := by
  rw [State.restingAuthority, State.restingAuthority, h.front, h.route, h.overrun]

/-! ### Claims of states alike -/

theorem nextToClaim (h : s.Alike t) : t.nextToClaim = s.nextToClaim := by
  simp only [State.nextToClaim, h.front, h.claims, h.route, h.mode, h.peers, h.config]

theorem addClaim (h : s.Alike t) (c : Claim) : (s.addClaim c).Alike (t.addClaim c) := by
  unfold State.addClaim
  rw [h.claims]
  exact h.setClaims _

theorem newClaim (h : s.Alike t) (i : Nat) (e : RouteEntry) (st : ClaimState) (a : Nat) (since : Option Nat) :
    t.newClaim i e st a since = s.newClaim i e st a since := by
  rw [State.newClaim, State.newClaim, h.claims]

theorem claimAheadLoop (h : s.Alike t) (n : Nat) :
    (Machine.claimAheadLoop n s).Alike (Machine.claimAheadLoop n t) := by
  induction n generalizing s t with
  | zero => exact h
  | succ n ih =>
    unfold Machine.claimAheadLoop
    rw [h.nextToClaim]
    split
    · exact h
    · rw [h.newClaim]
      exact ih (h.addClaim _)

theorem claimAhead (h : s.Alike t) : s.claimAhead.Alike t.claimAhead := h.claimAheadLoop _

theorem promotable (h : s.Alike t) (d : Nat) (prev : Option Claim) (c : Claim) :
    t.promotable d prev c = s.promotable d prev c := by
  simp only [State.promotable, State.windowElapsed, State.outranked, State.outrankedBy, State.ranked, h.classOf,
    h.config, h.now, h.peers, h.claims]

theorem promoted (h : s.Alike t) (c : Claim) : t.promoted c = s.promoted c := by
  simp only [State.promoted, h.classOf, h.now]

theorem sweep (h : s.Alike t) (prev : Option Claim) (d : Nat) (cs : List Claim) :
    t.sweep prev d cs = s.sweep prev d cs := by
  induction cs generalizing prev d with
  | nil => rfl
  | cons c cs ih => simp only [State.sweep, h.promotable, h.promoted, ih]

theorem promoteAll (h : s.Alike t) : s.promoteAll.1.Alike t.promoteAll.1 ∧ t.promoteAll.2 = s.promoteAll.2 := by
  unfold State.promoteAll
  dsimp only
  rw [h.claims, h.sweep]
  exact ⟨h.setClaims _, rfl⟩

theorem evaluatePromotion (h : s.Alike t) : s.evaluatePromotion.Alike t.evaluatePromotion := by
  obtain ⟨hs, h2⟩ := h.promoteAll
  unfold State.evaluatePromotion
  dsimp only
  rw [h2]
  split
  · exact hs.claimAhead
  · exact hs

theorem announce (h : s.Alike t) (ids : List Nat) : (s.announce ids).Alike (t.announce ids) := by
  unfold State.announce State.setList
  rw [h.claims, h.now, h.config]
  exact h.setClaims _

theorem completeTruncation (h : s.Alike t) (b : InFlight) :
    (s.completeTruncation b).Alike (t.completeTruncation b) := by
  unfold State.completeTruncation
  rw [h.route]
  split
  · exact h.setRoute _
  · exact h

/-! ### Position changes of states alike -/

theorem enterEntry (h : s.Alike t) (i : Nat) (e : RouteEntry) :
    (s.enterEntry i e).1.Alike (t.enterEntry i e).1 ∧ (t.enterEntry i e).2 = (s.enterEntry i e).2 := by
  unfold State.enterEntry State.claimAt State.setList
  rw [h.claims, h.now, h.newClaim]
  split
  · exact ⟨h.setClaims _, rfl⟩
  · split
    · exact ⟨h.addClaim _, rfl⟩
    · exact ⟨h, rfl⟩

theorem enterUpTo (h : s.Alike t) (front : Nat) (es : List RouteEntry) (i at_ : Nat) :
    (Machine.enterUpTo front es i at_ s).1.Alike (Machine.enterUpTo front es i at_ t).1
      ∧ (Machine.enterUpTo front es i at_ t).2 = (Machine.enterUpTo front es i at_ s).2 := by
  induction es generalizing s t i at_ with
  | nil => exact ⟨h, rfl⟩
  | cons e es ih =>
    unfold Machine.enterUpTo
    split
    · obtain ⟨h1, h2⟩ := h.enterEntry i e
      obtain ⟨h3, h4⟩ := ih h1 (i + 1) (at_ + e.length)
      exact ⟨h3, by dsimp only; rw [h2, h4]⟩
    · exact ⟨h, rfl⟩

theorem release (h : s.Alike t) : s.release.Alike t.release := by
  unfold State.release State.setList
  rw [h.rear, h.claims, h.route]
  split
  · exact h
  · exact (h.setClaims _).setRoute _

/-- The hand-on of a position change reads no more than what is alike. -/
theorem positionChange {w w' : Work} (h : w.s.Alike w'.s) (ho : w'.overrunEntry = w.overrunEntry) :
    w.positionChange.s.Alike w'.positionChange.s
      ∧ w'.positionChange.overrunEntry = w.positionChange.overrunEntry := by
  unfold Work.positionChange
  rw [h.front]
  split
  · exact ⟨h, ho⟩
  · rw [h.route]
    obtain ⟨h1, h2⟩ := h.enterUpTo _ w.s.route.entries w.s.route.first 0
    exact ⟨h1.release.claimAhead, by dsimp only; rw [ho, h2]⟩

/-! ### The authority of states alike -/

theorem usable (h : s.Alike t) (c : Claim) : t.usable c = s.usable c := by
  simp only [State.usable, h.classOf, h.now, h.peers]

theorem walk (h : s.Alike t) (front : Nat) (stop : Option RoutePos) (at_ : Nat) (cs : List Claim) :
    t.walk front stop at_ cs = s.walk front stop at_ cs := by
  induction cs generalizing at_ with
  | nil => simp only [State.walk, h.route]
  | cons c cs ih => simp only [State.walk, h.usable, h.route, ih]

theorem usableRun (h : s.Alike t) (front : Nat) : t.usableRun front = s.usableRun front := by
  simp only [State.usableRun, State.runFrom, h.route, h.claims, h.usable, h.walk]

theorem keepClearChain (h : s.Alike t) (own p behind : Nat) (es : List RouteEntry) (at_ : Nat)
    (chain : Option (Nat × Nat)) :
    t.keepClearChain own p behind es at_ chain = s.keepClearChain own p behind es at_ chain := by
  induction es generalizing at_ chain with
  | nil => rfl
  | cons e es ih => simp only [State.keepClearChain, h.classOf, ih]

theorem pulledBack (h : s.Alike t) (front own l0 : Nat) : t.pulledBack front own l0 = s.pulledBack front own l0 := by
  simp only [State.pulledBack, h.keepClearChain, h.config, h.pos, h.route]

theorem meetsTargets (h : s.Alike t) (front p v : Nat) (es : List RouteEntry) (at_ : Nat) :
    t.meetsTargets front p v es at_ = s.meetsTargets front p v es at_ := by
  induction es generalizing at_ with
  | nil => rfl
  | cons e es ih => simp only [State.meetsTargets, h.effectiveCap, h.config, ih]

theorem ceilingSearch (h : s.Alike t) (front cap l n : Nat) :
    t.ceilingSearch front cap l n = s.ceilingSearch front cap l n := by
  induction n with
  | zero => rfl
  | succ n ih => simp only [State.ceilingSearch, State.ceilingOk, h.meetsTargets, h.config, h.route, ih] <;> rfl

theorem computeAuthority (h : s.Alike t) : t.computeAuthority = s.computeAuthority := by
  simp only [State.computeAuthority, h.front, h.mode, h.overrun, h.route, h.usableRun, h.pulledBack, h.ceilingSearch,
    h.effectiveCap, h.config]

theorem fits (h : s.Alike t) : t.fits ↔ s.fits := by
  rw [State.fits, State.fits, h.computeAuthority, h.config, h.pos]

/-- What a state is recomputed into, a state alike with the same Mode Controller is recomputed into. -/
theorem recomputedInto (h : s.Alike t) (hc : t.ctl = s.ctl) {u : State} (hr : s.recomputedInto u) :
    t.recomputedInto u := by
  unfold State.recomputedInto at hr ⊢
  rwa [hc, h.restingAuthority, h.computeAuthority, h.reserved, h.claims, h.config, h.pos]

end State.Alike

/-! ### The recomputation, in the terms of the statements -/

theorem State.stopsOnRaise_of_serving {s : State} (h : s.ctl.mode = .serving) : s.stopsOnRaise := .inl h

/-- What a raise of OVERRUN leaves, whatever the mode (R117, R143). -/
theorem Work.raiseOverrun_spec (w : Work) : w.raiseOverrun.s.ctl.causes.has .overrun = true
    ∧ w.raiseOverrun.s.ctl.mode ≠ .serving
    ∧ (w.s.stopsOnRaise ∨ w.s.ctl.mode = .stopped → w.raiseOverrun.s.ctl.mode = .stopped)
    ∧ w.raiseOverrun.s.auth = { w.s.auth with overrun := true }
    ∧ w.raiseOverrun.s.reserved = w.s.reserved := by
  have hhas := State.recordCause_has (w.s.setAuth { w.s.auth with overrun := true }) .overrun
  have hmode := State.recordCause_mode (w.s.setAuth { w.s.auth with overrun := true }) .overrun
  have hauth := State.recordCause_auth (w.s.setAuth { w.s.auth with overrun := true }) .overrun
  have hres := State.recordCause_reserved (w.s.setAuth { w.s.auth with overrun := true }) .overrun
  by_cases h : w.s.stopsOnRaise
  · have he : w.raiseOverrun = ((w.on fun s => s.setAuth { s.auth with overrun := true }).on
        (·.recordCause .overrun)).enterStopped := Work.raise_of_stops nofun h
    rw [he, Work.enterStopped_ctl, Work.enterStopped_auth, Work.enterStopped_reserved]
    exact ⟨hhas, nofun, fun _ => rfl, hauth, hres⟩
  · have he : w.raiseOverrun = (w.on fun s => s.setAuth { s.auth with overrun := true }).on
        (·.recordCause .overrun) := Work.raise_of_stays h
    rw [he]
    refine ⟨hhas, fun hm => h (.inl (hmode.symm.trans hm)), fun hs => ?_, hauth, hres⟩
    exact hmode.trans (hs.resolve_left h)

/-- The stop by OVERRUN out of SERVING (R115, R117, R144). -/
theorem Work.raiseOverrun_of_serving {w : Work} (hm : w.s.ctl.mode = .serving) :
    w.raiseOverrun.s.stoppedBy .overrun ∧ w.raiseOverrun.s.claims = { w.s.claims with list := w.s.reserved }
      ∧ w.raiseOverrun.s.link.outstanding = [] ∧ w.raiseOverrun.s.link.pendingIssue = false
      ∧ w.raiseOverrun.modeChanged = true := by
  have hhas := State.recordCause_has (w.s.setAuth { w.s.auth with overrun := true }) .overrun
  have hmode := State.recordCause_mode (w.s.setAuth { w.s.auth with overrun := true }) .overrun
  have hclaims : ((w.on fun s => s.setAuth { s.auth with overrun := true }).on (·.recordCause .overrun)).s.claims
      = w.s.claims := State.recordCause_claims _ .overrun
  have he : w.raiseOverrun = ((w.on fun s => s.setAuth { s.auth with overrun := true }).on
      (·.recordCause .overrun)).enterStopped := Work.raise_of_stops nofun (.inl hm)
  have hlink := (Work.enterStopped_link ((w.on fun s => s.setAuth { s.auth with overrun := true }).on
      (·.recordCause .overrun))).trans (if_pos (hmode.trans hm))
  rw [he, State.stoppedBy, Work.enterStopped_ctl, Work.enterStopped_claims, hlink]
  refine ⟨⟨rfl, rfl, hhas⟩, ?_, rfl, rfl, rfl⟩
  rw [hclaims]
  rfl

theorem State.restingAuthority_of_body {s t : State} (h : t.body = s.body) (o : Bool) (ho : t.auth.overrun = o) :
    t.restingAuthority = { s.restingAuthority with overrun := o } := by
  obtain ⟨hr, -⟩ := State.body_eq_iff.mp h
  rw [State.restingAuthority, State.front_of_body h, hr, ho]
  rfl

/-- The record computed after a raise of OVERRUN. -/
theorem Work.raiseOverrun_compute_auth (w : Work) :
    w.raiseOverrun.compute.s.auth = { w.s.restingAuthority with overrun := true } := by
  obtain ⟨-, hm, -, ha, -⟩ := w.raiseOverrun_spec
  show w.raiseOverrun.s.computeAuthority.1 = _
  rw [State.computeAuthority_of_not_serving hm]
  exact State.restingAuthority_of_body w.raiseOverrun_body true (by rw [ha])

theorem State.restingAuthority_setAuth (s : State) (a : AuthorityUnit) (h : a.overrun = s.auth.overrun) :
    (s.setAuth a).restingAuthority = s.restingAuthority := by
  unfold State.restingAuthority
  rw [State.setAuth_auth, h]
  rfl

theorem State.computeAuthority_overrun (s : State) : s.computeAuthority.1.overrun = s.auth.overrun := by
  unfold State.computeAuthority
  split
  · rfl
  · split
    · rfl
    · dsimp only
      split <;> rfl

section
variable {w : Work} {t : State}

/-- The recomputation of an event without overrun entry, as the statements have it. -/
theorem Work.recomputedInto_of_closes (ho : w.overrunEntry = false) (h : w.recomputeNow.s.Closes t) :
    w.s.recomputedInto t := by
  have quiet (hf : w.s.ctl.mode = .serving → w.s.fits) :
      t.ctl = w.s.ctl ∧ t.auth = w.s.computeAuthority.1 ∧ t.claims = w.s.claims := by
    rw [Work.recomputeNow_of_fits ho hf] at h
    exact ⟨h.ctl, h.auth, h.claims⟩
  refine ⟨fun hm => ?_, fun hm hf => quiet fun _ => hf, fun hm hf => ?_⟩
  · have := quiet fun hs => absurd hs hm
    rwa [State.computeAuthority_of_not_serving hm] at this
  · have hf : ¬ w.s.fits := hf
    obtain ⟨hstop, hclaims, hout, hpend, -⟩ := Work.raiseOverrun_of_serving (w := w.compute) hm
    rw [(Work.recomputeNow_of_overrun ho hm hf).1] at h
    have hnot : w.compute.raiseOverrun.compute.s.ctl.mode ≠ .serving := w.compute.raiseOverrun_spec.2.1
    refine ⟨by rw [State.stoppedBy, h.ctl]; exact hstop, ?_, h.claims.trans hclaims, h.outstanding hnot hout,
      (h.pending hnot).trans hpend⟩
    rw [h.auth, w.compute.raiseOverrun_compute_auth]
    exact congrArg (fun a : AuthorityUnit => { a with overrun := true })
      (w.s.restingAuthority_setAuth _ w.s.computeAuthority_overrun)

/-- The recomputation of an event with an overrun entry (R116, R117). -/
theorem Work.recomputeNow_entry (ho : w.overrunEntry = true) :
    w.recomputeNow = { w.raiseOverrun.compute with
      issue := w.raiseOverrun.modeChanged || w.raiseOverrun.periodic
        || decide (w.raiseOverrun.compute.s.auth.length < w.s.auth.length) } := by
  have hno : ¬ w.raiseOverrun.compute.s.overruns = true := fun h =>
    w.raiseOverrun_spec.2.1 (Work.compute_overruns _ |>.mp h).1
  unfold Work.recomputeNow
  dsimp only
  rw [if_pos ho, if_neg hno]
  rfl

theorem Work.entered_of_closes (ho : w.overrunEntry = true) (h : w.recomputeNow.s.Closes t) :
    t.ctl.causes.has .overrun = true ∧ t.auth = { w.s.restingAuthority with overrun := true }
      ∧ (w.s.stopsOnRaise ∨ w.s.ctl.mode = .stopped → t.ctl.mode = .stopped) := by
  rw [Work.recomputeNow_entry ho] at h
  obtain ⟨hhas, -, hstop, -⟩ := w.raiseOverrun_spec
  rw [h.ctl, h.auth]
  exact ⟨hhas, w.raiseOverrun_compute_auth, hstop⟩

theorem Work.recomputeNow_reserved (w : Work) : w.recomputeNow.s.reserved = w.s.reserved := by
  cases ho : w.overrunEntry with
  | true =>
    rw [Work.recomputeNow_entry ho]
    exact w.raiseOverrun_spec.2.2.2.2
  | false =>
    by_cases hf : w.s.ctl.mode = .serving → w.s.fits
    · rw [Work.recomputeNow_of_fits ho hf]
      rfl
    · obtain ⟨hm, hf⟩ := Classical.not_imp.mp hf
      rw [(Work.recomputeNow_of_overrun ho hm hf).1]
      exact w.compute.raiseOverrun_spec.2.2.2.2

theorem Work.settle_reserved (w : Work) (before : State) : (w.settle before).s.reserved = w.s.reserved := by
  unfold Work.settle
  split
  · exact w.recomputeNow_reserved
  · rfl

theorem Work.settle_of_recompute {before : State} (h : w.recompute = true) : w.settle before = w.recomputeNow := by
  unfold Work.settle Work.owes
  rw [h]
  rfl

end

/-- An event whose work only changes claims (R63). -/
theorem State.claimsSettled_of_closes {s p t : State} (hp : p.auth = s.auth)
    (h : ((Work.begin p).settle s).s.Closes t) : s.claimsSettledInto p t := by
  refine ⟨fun hv => ?_, fun hv => ?_⟩
  · have he : (Work.begin p).settle s = (Work.begin p).recomputeNow :=
      if_pos (show (Work.begin p).owes s = true by
        rw [Work.owes]
        exact Bool.or_eq_true_iff.mpr (.inr (bne_iff_ne.mpr hv)))
    rw [he] at h
    exact Work.recomputedInto_of_closes rfl h
  · rw [Work.settle_begin hv] at h
    exact ⟨h.ctl, h.auth.trans hp, h.claims⟩

end Sys2Proof.Machine
/-! ## The issue of AUTHORITY messages, and the authority period -/

namespace Sys2Proof.Machine

theorem DriveLink.withdraw_of_last {l : DriveLink} {order : List OutItem} {m : AuthorityMessage}
    (h : l.outgoing = order ++ [.authority m]) :
    l.withdraw = { l with outgoing := order, outstanding := l.outstanding.filter fun o => o.seq != m.seq } := by
  unfold DriveLink.withdraw
  rw [h, List.getLast?_concat]
  dsimp only
  rw [List.dropLast_concat]

theorem DriveLink.withdraw_of_other {l : DriveLink} (h : ∀ x ∈ l.outgoing.getLast?, x.isAuthority = false) :
    l.withdraw = l := by
  unfold DriveLink.withdraw
  split
  next m hl => exact absurd (h _ hl) nofun
  · rfl

/-- Settles O48: withdrawal, then the message by mode and outstanding list. -/
theorem issueOfAuthority : Obligations.IssueOfAuthority := by
  unfold Obligations.IssueOfAuthority
  intro s order outstanding hshape
  have hw : s.link.withdraw = { s.link with outgoing := order, outstanding := outstanding } := by
    obtain ⟨m, ho, rfl⟩ | ⟨rfl, rfl, hlast⟩ := hshape
    · exact DriveLink.withdraw_of_last ho
    · exact DriveLink.withdraw_of_other hlast
  have hissue : s.issueAuthority = if s.ctl.mode = .serving then
      if outstanding.length < 2 then
        s.setLink { s.link with
          outgoing := order ++ [.authority s.authorityMessage]
          outstanding := outstanding ++ [⟨s.link.authSeq, s.now⟩]
          authSeq := s.link.authSeq + 1 }
      else s.setLink { s.link with outgoing := order, outstanding := outstanding, pendingIssue := true }
    else s.setLink { s.link with
      outgoing := order ++ [.authority s.authorityMessage], outstanding := outstanding
      authSeq := s.link.authSeq + 1 } := by
    unfold State.issueAuthority
    rw [hw]
    rfl
  refine ⟨fun hm hl => ?_, fun hm hl => ?_, fun hm => ?_⟩
  · rw [hissue, if_pos hm, if_pos hl]
    rfl
  · rw [hissue, if_pos hm, if_neg (by omega)]
    rfl
  · rw [hissue, if_neg hm]
    rfl

/-! ### The end of an event with complete notices (R164, R165) -/

theorem DriveLink.withdraw_outgoing_subset (l : DriveLink) : ∀ x ∈ l.withdraw.outgoing, x ∈ l.outgoing := by
  intro x hx
  obtain ⟨m, -, h⟩ | ⟨-, h⟩ := l.withdraw_cases
  · rw [h] at hx
    exact List.dropLast_subset _ hx
  · rwa [h] at hx

/-- An issue adds no notice, complete or not. -/
theorem State.issueAuthority_noticesComplete {s : State} (h : s.noticesComplete) : s.issueAuthority.noticesComplete := by
  rw [State.noticesComplete, List.all_eq_true] at h ⊢
  have hw : ∀ x ∈ s.link.withdraw.outgoing, x.isComplete = true := fun x hx => h x (s.link.withdraw_outgoing_subset x hx)
  obtain he | ⟨-, he⟩ := s.issueAuthority_link_cases <;> rw [he] <;> intro x hx
  · obtain hx | hx := List.mem_append.mp hx
    · exact hw x hx
    · rw [List.mem_singleton.mp hx]
      rfl
  · exact hw x hx

theorem Work.close_of_complete {w : Work} (h : w.s.noticesComplete) :
    w.close = if w.issue then w.s.issueAuthority else w.s := by
  unfold Work.close
  split
  · exact State.completeNotices_of_complete (State.issueAuthority_noticesComplete h)
  · exact State.completeNotices_of_complete h

/-- The order of the link, after an issue outside SERVING, ends in the message issued. -/
theorem Work.close_last {w : Work} (hi : w.issue = true) (hm : w.s.ctl.mode ≠ .serving) :
    w.close.link.order.getLast? = some (.authority w.s.authorityMessage)
      ∧ w.close.link.authSeq = w.s.link.authSeq + 1 := by
  unfold Work.close
  rw [if_pos hi, State.issueAuthority_of_not_serving hm]
  refine ⟨?_, rfl⟩
  show (_ ++ List.map _ (_ ++ [_])).getLast? = _
  rw [List.map_append, ← List.append_assoc]
  exact List.getLast?_concat

theorem State.transmit_authSeq (s : State) : s.transmit.link.authSeq = s.link.authSeq := by
  obtain h | ⟨x, xs, -, -, -, -, h⟩ := s.transmit_cases <;> rw [h]
  rfl

theorem DriveLink.issued_authTimer (l : DriveLink) (m : AuthorityMessage) (due : Option Nat) :
    ({ l with authTimer := due } : DriveLink).issued m = { l.issued m with authTimer := due } := by
  unfold DriveLink.issued DriveLink.withdraw
  cases l.outgoing.getLast? with
  | none => rfl
  | some x => cases x <;> rfl

/-! ### The authority period -/

/-- The state whose authority period timer is re-armed (R165). -/
def State.rearmed (s : State) : State :=
  s.setLink { s.link with authTimer := some (s.now + s.config.params.authPeriod) }

theorem State.rearmed_alike (s : State) : s.Alike s.rearmed := State.Alike.setLink s _

/-- The work of the authority period, before its recomputation. -/
theorem State.exec_authorityPeriod {s : State} {due : Nat} (hh : s.held = false) (ht : s.link.authTimer = some due)
    (hd : due ≤ s.now) : exec .authorityPeriodExpiry s
      = .next ({ Work.begin s.rearmed with periodic := true } : Work).recomputeNow.close.transmit :=
  congrArg Host.Outcome.next ((State.ifDue_of_due _ hh (by rw [ht]; exact decide_eq_true hd)).trans rfl)

section
variable {s : State}

/-- Where the check of R115 raises nothing, the period replaces the record and issues. -/
theorem State.period_of_fits (hc : s.noticesComplete) (hf : s.ctl.mode = .serving → s.fits) :
    ({ Work.begin s.rearmed with periodic := true } : Work).recomputeNow.close
      = (s.rearmed.setAuth s.computeAuthority.1).issueAuthority := by
  have ha := s.rearmed_alike
  rw [Work.recomputeNow_of_fits (w := { Work.begin s.rearmed with periodic := true }) rfl
    (fun hm => ha.fits.mpr (hf hm)), Work.close_of_complete (by exact hc)]
  show State.issueAuthority (s.rearmed.setAuth s.rearmed.computeAuthority.1) = _
  rw [ha.computeAuthority]

/-- Outside SERVING the message issued carries no authority (R107). -/
theorem State.period_resting (hc : s.noticesComplete) (hm : s.ctl.mode ≠ .serving) :
    ({ Work.begin s.rearmed with periodic := true } : Work).recomputeNow.close
      = { s with
        auth := s.restingAuthority
        link := { s.link.issued (s.restingMessage s.ctl.mode (if s.ctl.mode = .stopped then s.ctl.first else none)) with
          authTimer := some (s.now + s.config.params.authPeriod) } } := by
  rw [State.period_of_fits hc fun hs => absurd hs hm, State.computeAuthority_of_not_serving hm]
  refine (State.issueAuthority_of_not_serving (s := s.rearmed.setAuth s.restingAuthority) hm).trans (Eq.trans ?_ (congrArg (State.setLink (s.setAuth s.restingAuthority))
    (DriveLink.issued_authTimer s.link _ (some (s.now + s.config.params.authPeriod)))))
  rfl

/-- Where it raises OVERRUN, the one issue is that of the entry into STOPPED (R115, R165). -/
theorem State.period_message (hm : s.ctl.mode = .serving) (hf : ¬ s.fits) (t : State)
    (ht : ({ Work.begin s.rearmed with periodic := true } : Work).recomputeNow.close.transmit = t) :
    t.link.order.getLast? = some (.authority { s.restingMessage .stopped t.ctl.first with overrun := true })
      ∧ t.link.authSeq = s.link.authSeq + 1 := by
  subst ht
  generalize hw : ({ Work.begin s.rearmed with periodic := true } : Work) = w
  have hclose : w.recomputeNow.s.Closes w.recomputeNow.close.transmit := (Work.close_closes _).transmit
  have hfit : ¬ w.s.fits := by
    subst hw
    exact fun h => hf (s.rearmed_alike.fits.mp h)
  have ho : w.overrunEntry = false := by rw [← hw]; rfl
  have hs : w.s.ctl.mode = .serving := by rw [← hw]; exact hm
  obtain ⟨⟨hmode, -⟩, -, -, -, hchanged⟩ := Work.raiseOverrun_of_serving (w := w.compute) hs
  obtain ⟨hstate, hissue⟩ := Work.recomputeNow_of_overrun ho hs hfit
  have hstopped : w.recomputeNow.s.ctl.mode = .stopped := by rw [hstate]; exact hmode
  obtain ⟨hlast, hseq⟩ := Work.close_last (w := w.recomputeNow) (by rw [hissue, hchanged]; rfl) (by rw [hstopped]; nofun)
  obtain ⟨hroute, -⟩ := State.body_eq_iff.mp w.recomputeNow_body
  have hauth : w.recomputeNow.s.auth = { s.restingAuthority with overrun := true } := by
    have := (Work.recomputedInto_of_closes ho hclose).2.2 hs hfit
    rw [← hclose.auth, this.2.1, ← hw]
    rfl
  have hlink : w.recomputeNow.s.link.authSeq = s.link.authSeq := by
    rw [w.recomputeNow_grows.authSeq, ← hw]
    rfl
  refine ⟨?_, by rw [State.transmit_authSeq, hseq, hlink]⟩
  rw [State.transmit_order, hlast, hclose.ctl, State.authorityMessage, if_pos hstopped, hlink, hstopped, hauth, hroute, ← hw]
  rfl

end

/-- Settles O49. -/
theorem authorityPeriodRecomputes : Obligations.AuthorityPeriodRecomputes := by
  unfold Obligations.AuthorityPeriodRecomputes
  intro s due hh ht hd hc
  refine ⟨fun hm => ?_, fun hm => ⟨_, State.exec_authorityPeriod hh ht hd, ?_⟩⟩
  · rw [State.exec_authorityPeriod hh ht hd, State.period_resting hc hm]
  · have hclose : ({ Work.begin s.rearmed with periodic := true } : Work).recomputeNow.s.Closes
        ({ Work.begin s.rearmed with periodic := true } : Work).recomputeNow.close.transmit :=
      (Work.close_closes _).transmit
    have hbody := hclose.body.trans (Work.recomputeNow_body _)
    have hinto := s.rearmed_alike.symm.recomputedInto rfl (Work.recomputedInto_of_closes rfl hclose)
    refine ⟨(hclose.authTimer.trans (Work.recomputeNow_grows _).authTimer).trans rfl, fun h2 hl => ?_, fun hn => ?_,
      State.body_eq_iff.mp hbody⟩
    · obtain ⟨hctl, hauth, hclaims⟩ := hinto.2.1 hm ⟨h2, hl⟩
      exact ⟨hctl, hauth, hclaims, congrArg State.transmit (State.period_of_fits hc fun _ => ⟨h2, hl⟩)⟩
    · have hf : ¬ s.fits := fun hf => hn.elim (fun h => absurd (hf.1.symm.trans h) nofun) (fun h => absurd hf.2 (by omega))
      obtain ⟨hstop, hauth, hclaims, hout, hpend⟩ := hinto.2.2 hm hf
      exact ⟨hstop, hauth, hclaims, hout, hpend, State.period_message hm hf _ rfl⟩

end Sys2Proof.Machine

/-!
PROOF. Mode changes: requests that are answered with or without effect, the entries into SERVING, STOPPED
and a mode without authority, in the terms of the statements (R142, R144, R147 to R152).
-/

namespace Sys2Proof.Machine

/-! ### Requests past the checks of the link -/

section
variable {s : State} {type : Byte} {n : Nat} {payload : List Byte} {f : Work → Answer}
variable (h : s.readyFor ⟨type, payload⟩) (hm : s.ctl.mode ≠ .init) (hn : payload.length = n)
include h hm hn

theorem State.request_closes :
    ((f (Work.begin s.taken)).work.settle s.taken).s.Closes (s.request type n payload f) := by
  rw [State.request_ready h hm hn]
  exact s.taken.answered_closes type f

theorem State.request_lastResult :
    (s.request type n payload f).link.lastResult = some (type, (f (Work.begin s.taken)).code) := by
  rw [State.request_ready h hm hn]
  exact s.taken.answered_lastResult type f

end

theorem DriveLink.issued_intake (l : DriveLink) (m : AuthorityMessage) (fs : List Frame) :
    ({ l with intake := fs } : DriveLink).issued m = { l.issued m with intake := fs } := by
  unfold DriveLink.issued DriveLink.withdraw
  cases l.outgoing.getLast? with
  | none => rfl
  | some x => cases x <;> rfl

/-! ### Entering a mode without authority -/

/-- A mode change into a mode outside SERVING issues the message of that mode (R107, R119, R165). -/
theorem Work.recomputeNow_close_resting {w : Work} (ho : w.overrunEntry = false) (hch : w.modeChanged = true)
    (hm : w.s.ctl.mode ≠ .serving) (hc : w.s.noticesComplete) :
    w.recomputeNow.close = { w.s with
      auth := w.s.restingAuthority
      link := w.s.link.issued
        (w.s.restingMessage w.s.ctl.mode (if w.s.ctl.mode = .stopped then w.s.ctl.first else none)) } := by
  rw [Work.recomputeNow_of_fits ho fun hs => absurd hs hm, Work.close_of_complete (by exact hc), hch]
  show State.issueAuthority (w.s.setAuth w.s.computeAuthority.1) = _
  rw [State.computeAuthority_of_not_serving hm]
  exact State.issueAuthority_of_not_serving (s := w.s.setAuth w.s.restingAuthority) hm

/-- A request whose work changes the mode so is answered after the message (R149, R159, R165). -/
theorem State.request_resting {s u : State} {type : Byte} {n : Nat} {payload : List Byte} {f : Work → Answer}
    {code : ResultCode} (h : s.readyFor ⟨type, payload⟩) (hm : s.ctl.mode ≠ .init) (hn : payload.length = n)
    (hf : f (Work.begin s.taken)
      = ⟨{ Work.begin { u with link := { u.link with intake := s.link.intake.tail } } with
          recompute := true, modeChanged := true }, code, []⟩)
    (hu : u.ctl.mode ≠ .serving) (hus : u.ctl.mode ≠ .stopped) (hc : u.noticesComplete)
    (hi : u.link.intake = s.link.intake) :
    s.request type n payload f = ({ u with
      auth := u.restingAuthority
      link := u.link.issued (u.restingMessage u.ctl.mode none) } : State).replied type code [] := by
  rw [State.request_ready h hm hn, State.answered, ← Work.begin, hf]
  dsimp only
  rw [Work.settle_of_recompute rfl, Work.recomputeNow_close_resting rfl rfl hu hc]
  show (State.respond { u with
    auth := u.restingAuthority
    link := ({ u.link with intake := s.link.intake.tail } : DriveLink).issued
      (u.restingMessage u.ctl.mode (if u.ctl.mode = .stopped then u.ctl.first else none)) } type code []).transmit = _
  rw [DriveLink.issued_intake, if_neg hus, State.replied, DriveLink.replied]
  have : (u.link.issued (u.restingMessage u.ctl.mode none)).intake = s.link.intake := by
    rw [DriveLink.issued, u.link.withdraw_eq]
    exact hi
  rw [this]
  rfl

/-- Settles O42. -/
theorem parkGivesBackReservations : Obligations.ParkGivesBackReservations := by
  unfold Obligations.ParkGivesBackReservations
  intro s hi h
  refine ⟨fun hm => ?_, fun hm hv => ?_, fun hm hv => ?_⟩
  · exact State.request_answers h hi rfl (if_pos hm)
  · exact State.request_answers h hi rfl ((if_neg (Classical.not_not.mpr hm)).trans (if_pos hv))
  · refine congrArg Host.Outcome.next (State.request_resting h hi rfl (u := { s with
        ctl := { s.ctl with mode := .parked, line := .asserted }
        claims := { s.claims with list := s.claims.list.filter fun c => c.state == .occupied, backoff := none }
        beacon := { s.beacon with parkedCount := 0 }
        link := { s.link with outstanding := [], pendingIssue := false } })
      ((if_neg (Classical.not_not.mpr hm)).trans (if_neg (Classical.not_not.mpr hv))) nofun nofun h.2.2.2 rfl)

/-! ### Entering SERVING (R152) -/

theorem claimsFrom_ne_nil {cs : List Claim} {i : Nat} {c : Claim} (hc : c ∈ cs) (hi : c.index = i) :
    claimsFrom i cs ≠ [] := by
  intro h
  have := dropWhile_nil_iff.mp h c hc
  simp [hi] at this

theorem State.servingFrom_claims (s : State) (m : ModeController) : ∃ new,
    (s.servingFrom m).claims.list = s.claims.list ++ new ∧ ∀ c ∈ new, c.state = .tentative ∧ c.announce = 0 := by
  obtain ⟨new, h, hnew, -⟩ := State.claimAhead_spec { s with
    ctl := { m with mode := .serving, line := .released }, auth := { s.auth with overrun := false } }
  refine ⟨new, ?_, fun c hc => ⟨(hnew c hc).1, (hnew c hc).2.1⟩⟩
  rw [State.servingFrom, h]
  rfl

theorem State.servingFrom_auth (s : State) (m : ModeController) :
    (s.servingFrom m).auth = { s.auth with overrun := false } := by
  rw [State.servingFrom, State.claimAhead_eq]
  rfl

/-- A carrier at rest where it stands in an own claim, or at the start of an entry, fits (R108, R115). -/
theorem State.servingFrom_fits {s : State} (m : ModeController) (hv : s.pos.speed = 0) (hs : s.frontStands) :
    (s.servingFrom m).fits := by
  obtain ⟨new, hlist, -⟩ := s.servingFrom_claims m
  have hbody : (s.servingFrom m).body = s.body := State.claimAhead_body _
  obtain ⟨hroute, hpos, -⟩ := State.body_eq_iff.mp hbody
  refine ⟨Bool.eq_false_iff.mpr fun ho => ?_, by rw [hpos, hv, Params.stopping_rest]; exact Nat.zero_le _⟩
  obtain ⟨-, hout⟩ := State.computeAuthority_outside_iff.mp ho
  rw [hroute, State.front_of_body hbody, hlist] at hout
  obtain ⟨front, hf, hcell⟩ := Option.bind_eq_some_iff.mp hs
  obtain ⟨⟨i, e, b⟩, hc, hstand⟩ := Option.map_eq_some_iff.mp hcell
  obtain ⟨hnone, hb⟩ := hout front hf i e b hc
  obtain hclaim | hstart := Bool.or_eq_true_iff.mp hstand
  · obtain ⟨c, hfind⟩ := Option.isSome_iff_exists.mp hclaim
    have hi := List.find?_some hfind
    exact claimsFrom_ne_nil (List.mem_append_left _ (List.mem_of_find?_eq_some hfind)) (beq_iff_eq.mp hi) hnone
  · exact hb (beq_iff_eq.mp hstart)

section
variable {s t before : State} {l : DriveLink} {m : ModeController}

theorem State.enterServing_alike (s : State) (l : DriveLink) (m : ModeController) :
    (s.servingFrom m).Alike (Work.begin ((s.setLink l).setCtl m)).enterServing.s :=
  State.Alike.claimAhead ⟨rfl, rfl, rfl, rfl, rfl, rfl, rfl, rfl⟩

/-- What an event that enters SERVING leads to. -/
theorem State.serving_entered
    (h : ((Work.begin ((s.setLink l).setCtl m)).enterServing.settle before).s.Closes t) :
    (s.servingFrom m).recomputedInto t ∧ t.body = s.body := by
  refine ⟨?_, (h.body.trans (Work.settle_body _ _)).trans (Work.enterServing_body _)⟩
  rw [Work.settle_of_recompute rfl] at h
  refine (s.enterServing_alike l m).symm.recomputedInto ?_ (Work.recomputedInto_of_closes rfl h)
  rw [Work.enterServing_ctl]
  exact State.claimAhead_ctl _

/-- Where the carrier stands in an own claim, or at the start of an entry, the station is in SERVING. -/
theorem State.serving_stands (h : (s.servingFrom m).recomputedInto t) (hv : s.pos.speed = 0) (hs : s.frontStands) :
    ∃ new, t.ctl = { m with mode := .serving, line := .released } ∧ t.auth.overrun = false
      ∧ t.claims.list = s.claims.list ++ new ∧ ∀ c ∈ new, c.state = .tentative ∧ c.announce = 0 := by
  have hctl : (s.servingFrom m).ctl = { m with mode := .serving, line := .released } := State.claimAhead_ctl _
  obtain ⟨hc, ha, hclaims⟩ := h.2.1 (by rw [hctl]) (State.servingFrom_fits m hv hs)
  obtain ⟨new, hlist, hnew⟩ := s.servingFrom_claims m
  refine ⟨new, hc.trans hctl, ?_, hclaims ▸ hlist, hnew⟩
  rw [ha, State.computeAuthority_overrun, State.servingFrom_auth]

end

/-- With nothing outstanding the message issued in SERVING is supervised alone (R166). -/
theorem State.issueAuthority_outstanding_of_nil {s : State} (hm : s.ctl.mode = .serving) (h : s.link.outstanding = []) :
    s.issueAuthority.link.outstanding = [⟨s.link.authSeq, s.now⟩] := by
  have hw := DriveLink.withdraw_outstanding_nil h
  have hseq : s.link.withdraw.authSeq = s.link.authSeq := by rw [s.link.withdraw_eq]
  unfold State.issueAuthority
  dsimp only
  rw [if_pos hm, if_pos (by rw [hw]; decide), hw, hseq]
  rfl

theorem State.transmit_outstanding (s : State) : s.transmit.link.outstanding = s.link.outstanding := by
  obtain h | ⟨x, xs, -, -, -, -, h⟩ := s.transmit_cases <;> rw [h]
  rfl

/-- Settles O43. -/
theorem unparkEntersServing : Obligations.UnparkEntersServing := by
  unfold Obligations.UnparkEntersServing
  intro s hi h
  have hwork (hm : s.ctl.mode = .parked) : Work.unpark (Work.begin s.taken)
      = (Work.begin ((s.setLink s.taken.link).setCtl s.ctl)).enterServing.answer .done :=
    if_neg (Classical.not_not.mpr hm)
  have entered (hm : s.ctl.mode = .parked) : (s.servingFrom s.ctl).recomputedInto (s.request 0x0D#8 0 [] Work.unpark)
      ∧ (s.request 0x0D#8 0 [] Work.unpark).body = s.body := by
    have hcl := State.request_closes (f := Work.unpark) h hi rfl
    rw [hwork hm] at hcl
    exact State.serving_entered hcl
  have answered (hm : s.ctl.mode = .parked) :
      (s.request 0x0D#8 0 [] Work.unpark).link.lastResult = some (0x0D#8, .done) := by
    rw [State.request_lastResult (n := 0) h hi rfl, hwork hm]
    rfl
  refine ⟨fun hm => ?_, fun hm => ⟨_, rfl, (entered hm).1, answered hm, State.body_eq_iff.mp (entered hm).2⟩,
    fun hm hv hs ho => ?_⟩
  · exact State.request_answers h hi rfl (if_pos hm)
  · obtain ⟨new, hctl, hauth, hlist, hnew⟩ := State.serving_stands (entered hm).1 hv hs
    refine ⟨_, new, rfl, hctl, hauth, hlist, hnew, ?_, answered hm, State.body_eq_iff.mp (entered hm).2⟩
    show (s.request 0x0D#8 0 [] Work.unpark).link.outstanding = _
    have halike := s.enterServing_alike s.taken.link s.ctl
    rw [State.request_ready (n := 0) h hi rfl, State.answered, ← Work.begin, State.transmit_outstanding, hwork hm]
    show (Work.close (Work.settle _ (Work.begin ((s.setLink s.taken.link).setCtl s.ctl)).enterServing)).link.outstanding = _
    rw [Work.settle_of_recompute rfl,
      Work.recomputeNow_of_fits rfl fun _ => halike.fits.mpr (State.servingFrom_fits _ hv hs)]
    have hlink := Work.enterServing_link (Work.begin ((s.setLink s.taken.link).setCtl s.ctl))
    refine (State.issueAuthority_outstanding_of_nil (s := State.setAuth _ _) ?_ ?_).trans ?_
    · show (Work.enterServing _).s.ctl.mode = _
      rw [Work.enterServing_ctl]
    · exact (congrArg DriveLink.outstanding hlink).trans ho
    · show [Outstanding.mk (Work.enterServing _).s.link.authSeq _] = _
      rw [hlink]
      exact congrArg (fun n => [Outstanding.mk s.link.authSeq n]) (halike.now.trans (State.body_eq_iff.mp
        (State.claimAhead_body _)).2.2.2.2.2.2.2.2.2.1)

/-! ### RESUME (R146 to R148) -/

theorem CauseSet.has_mk (f : Cause → Bool) (c : Cause) :
    (⟨f .external, f .driveSilent, f .overrun, f .positionLost, f .offRoute, f .airFault, f .startConflict,
      f .duplicateId, f .collisionRisk⟩ : CauseSet).has c = f c := by
  cases c <;> rfl

theorem State.unsatisfied_has (s : State) (c : Cause) :
    s.unsatisfied.has c = (s.ctl.causes.has c && !s.satisfied c) :=
  CauseSet.has_mk (fun c => s.ctl.causes.has c && !s.satisfied c) c

/-- RESUME's last check (R147). -/
theorem State.unsatisfied_isEmpty_iff {s : State} :
    s.unsatisfied.isEmpty = true ↔ ∀ c, s.ctl.causes.has c = true → s.satisfied c = true := by
  rw [CauseSet.isEmpty_iff]
  refine forall_congr' fun c => ?_
  rw [s.unsatisfied_has]
  cases s.ctl.causes.has c <;> cases s.satisfied c <;> simp

theorem State.overrunOver_iff {s : State} : s.overrunOver = true ↔ s.pos.speed = 0 ∧ ∃ front, s.front? = some front
    ∧ ∃ c ∈ s.claims.list, c.state = .occupied ∧ s.route.startOf c.index ≤ front
      ∧ front ≤ s.route.endOf c.index := by
  unfold State.overrunOver
  rw [Bool.and_eq_true, beq_iff_eq]
  refine and_congr_right fun _ => ?_
  cases s.front? with
  | none => simp
  | some front => simp [List.any_eq_true, and_assoc]

theorem State.satisfied_startConflict_iff {s : State} : s.satisfied .startConflict = true ↔
    ∀ c ∈ s.claims.list, c.state = .occupied → s.peers.blocked c.cell = false := by
  simp [State.satisfied]

/-- Settles O44. -/
theorem resumeClearsCauses : Obligations.ResumeClearsCauses := by
  unfold Obligations.ResumeClearsCauses
  refine ⟨fun s => ⟨by simp [State.satisfied], rfl, State.overrunOver_iff, Iff.rfl, Iff.rfl, Iff.rfl,
    State.satisfied_startConflict_iff, rfl, rfl, s.unsatisfied_has⟩, fun s hi h => ?_⟩
  have hunsat : s.taken.unsatisfied = s.unsatisfied := rfl
  intro cleared
  refine ⟨fun hm => ?_, fun hm hv => ?_, fun hm hv hc => ?_, fun hm hv hc => ?_⟩
  · exact State.request_answers h hi rfl (if_pos hm)
  · exact State.request_answers h hi rfl ((if_neg (Classical.not_not.mpr hm)).trans (if_pos hv))
  · have hne : (!s.unsatisfied.isEmpty) = true := by
      obtain ⟨c, hin, hnot⟩ := hc
      rw [Bool.not_eq_true', Bool.eq_false_iff]
      exact fun he => absurd ((State.unsatisfied_isEmpty_iff.mp he c hin).symm.trans hnot) nofun
    exact State.request_answers h hi rfl
      ((if_neg (Classical.not_not.mpr hm)).trans ((if_neg (Classical.not_not.mpr hv)).trans (if_pos hne)))
  · have hempty : ¬ (!s.unsatisfied.isEmpty) = true := by
      rw [State.unsatisfied_isEmpty_iff.mpr hc]
      decide
    have hwork : Work.resume (Work.begin s.taken) = (Work.begin s.taken).resumed.answer .done :=
      (if_neg (Classical.not_not.mpr hm)).trans ((if_neg (Classical.not_not.mpr hv)).trans (if_neg hempty))
    refine ⟨fun hl => ?_, ?_⟩
    · refine congrArg Host.Outcome.next (State.request_resting h hi rfl (u := { s with ctl := cleared .listen .asserted })
        (hwork.trans (congrArg (Work.answer · .done) ?_)) nofun nofun h.2.2.2 rfl)
      exact if_neg (by show ¬ s.ctl.listenDone = true; rw [hl]; decide)
    · have hserving (hl : s.ctl.listenDone = true) : (Work.begin s.taken).resumed
          = (Work.begin ((s.setLink s.taken.link).setCtl s.taken.clearCauses.ctl)).enterServing := if_pos hl
      have entered (hl : s.ctl.listenDone = true) :
          (s.servingFrom (cleared .serving .released)).recomputedInto (s.request 0x0E#8 0 [] Work.resume)
            ∧ (s.request 0x0E#8 0 [] Work.resume).body = s.body := by
        have hcl := State.request_closes (f := Work.resume) h hi rfl
        rw [hwork, hserving hl] at hcl
        exact State.serving_entered hcl
      have answered : (s.request 0x0E#8 0 [] Work.resume).link.lastResult = some (0x0E#8, .done) := by
        rw [State.request_lastResult (n := 0) h hi rfl, hwork]
        rfl
      refine ⟨fun hl => ⟨_, rfl, (entered hl).1, answered, State.body_eq_iff.mp (entered hl).2⟩, fun hl hs => ?_⟩
      obtain ⟨new, hctl, hauth, hlist, hnew⟩ := State.serving_stands (entered hl).1 hv hs
      exact ⟨_, new, rfl, hctl, hauth, hlist, hnew, answered, State.body_eq_iff.mp (entered hl).2⟩

end Sys2Proof.Machine

/-!
PROOF. Events that raise a stop cause: what the raise leaves, whether or not it stops the station (R143,
R144), and the settling of an event that ends outside SERVING.
-/

namespace Sys2Proof.Machine

theorem Work.enterStopped_not_serving (w : Work) : w.enterStopped.s.ctl.mode ≠ .serving := by
  rw [w.enterStopped_ctl]
  nofun

/-! ### A raise of a cause other than START_CONFLICT (R143, R144) -/

section
variable {w : Work} {c : Cause}

theorem Work.raise_overrunEntry (w : Work) (c : Cause) : (w.raise c).overrunEntry = w.overrunEntry := by
  obtain h | h | h := w.raise_cases c <;> rw [h]
  · rfl
  · obtain h | h | h := (w.on (·.recordCause c)).listenExit_cases <;> rw [h] <;> rfl
  · rfl

section
variable (hc : c ≠ .startConflict)
include hc

/-- The Mode Controller after a raise: the cause recorded, in the mode that it leads to. -/
theorem Work.raise_ctl : ∃ m l, (w.raise c).s.ctl = { (w.s.recordCause c).ctl with mode := m, line := l }
    ∧ m ≠ .serving := by
  by_cases h : w.s.stopsOnRaise
  · rw [Work.raise_of_stops hc h, Work.enterStopped_ctl]
    exact ⟨_, _, rfl, nofun⟩
  · rw [Work.raise_of_stays h]
    exact ⟨_, _, rfl, fun hm => h (.inl ((w.s.recordCause_mode c).symm.trans hm))⟩

theorem Work.raise_not_serving : (w.raise c).s.ctl.mode ≠ .serving := by
  obtain ⟨m, l, h, hm⟩ := Work.raise_ctl (w := w) hc
  rw [h]
  exact hm

theorem Work.raise_has : (w.raise c).s.ctl.causes.has c = true := by
  obtain ⟨m, l, h, -⟩ := Work.raise_ctl (w := w) hc
  rw [h]
  exact w.s.recordCause_has c

theorem Work.raise_stopped (h : w.s.stopsOnRaise) : (w.raise c).s.stoppedBy c := by
  rw [Work.raise_of_stops hc h, State.stoppedBy, Work.enterStopped_ctl]
  exact ⟨rfl, rfl, w.s.recordCause_has c⟩

theorem Work.raise_recompute (h : w.s.stopsOnRaise) : (w.raise c).recompute = true := by
  rw [Work.raise_of_stops hc h]
  rfl

theorem Work.raise_auth : (w.raise c).s.auth = w.s.auth := by
  by_cases h : w.s.stopsOnRaise
  · rw [Work.raise_of_stops hc h, Work.enterStopped_auth]
    exact w.s.recordCause_auth c
  · rw [Work.raise_of_stays h]
    exact w.s.recordCause_auth c

theorem Work.raise_reserved : (w.raise c).s.reserved = w.s.reserved := by
  by_cases h : w.s.stopsOnRaise
  · rw [Work.raise_of_stops hc h, Work.enterStopped_reserved]
    exact w.s.recordCause_reserved c
  · rw [Work.raise_of_stays h]
    exact w.s.recordCause_reserved c

/-- A cause that was not in the set queues its STOPPED notice. -/
theorem Work.raise_queued (hn : w.s.ctl.causes.has c = false) : w.s.queued (w.raise c).s.link (.stopped c none) := by
  have recorded := State.recordCause_queued w.s hn
  by_cases h : w.s.stopsOnRaise
  · rw [Work.raise_of_stops hc h]
    exact recorded.grows (Work.enterStopped_grows (w.on (·.recordCause c)))
  · rw [Work.raise_of_stays h]
    exact recorded

end

theorem Work.raise_stays_mode (h : ¬ w.s.stopsOnRaise) : (w.raise c).s.ctl.mode = w.s.ctl.mode := by
  rw [Work.raise_of_stays h]
  exact w.s.recordCause_mode c

/-- A stop out of SERVING empties the outstanding list (R166). -/
theorem Work.raise_of_serving (hc : c ≠ .startConflict) (h : w.s.ctl.mode = .serving) :
    (w.raise c).s.link.outstanding = [] ∧ (w.raise c).s.link.pendingIssue = false
      ∧ (w.raise c).s.claims = { w.s.claims with list := w.s.reserved } := by
  have hlink := (Work.enterStopped_link (w.on (·.recordCause c))).trans (if_pos ((w.s.recordCause_mode c).trans h))
  have hclaims : (w.on (·.recordCause c)).s.claims = w.s.claims := w.s.recordCause_claims c
  rw [Work.raise_of_stops hc (.inl h), hlink, Work.enterStopped_claims, hclaims]
  exact ⟨rfl, rfl, rfl⟩

end

/-! ### The end of an event outside SERVING -/

section
variable {w : Work} {before t : State}

/-- Outside SERVING the recomputation replaces the record alone (R107). -/
theorem Work.settle_of_not_serving (ho : w.overrunEntry = false) (hm : w.s.ctl.mode ≠ .serving) :
    (w.settle before).s = w.s.setAuth (if w.owes before then w.s.restingAuthority else w.s.auth) := by
  unfold Work.settle
  split
  · rw [Work.recomputeNow_of_fits ho fun hs => absurd hs hm, State.computeAuthority_of_not_serving hm]
  · rfl

theorem Work.settle_closes_ctl (ho : w.overrunEntry = false) (hm : w.s.ctl.mode ≠ .serving)
    (h : (w.settle before).s.Closes t) : t.ctl = w.s.ctl := by
  rw [h.ctl, Work.settle_of_not_serving ho hm]
  rfl

theorem Work.settle_closes_claims (ho : w.overrunEntry = false) (hm : w.s.ctl.mode ≠ .serving)
    (h : (w.settle before).s.Closes t) : t.claims = w.s.claims := by
  rw [h.claims, Work.settle_of_not_serving ho hm]
  rfl

theorem Work.settle_closes_auth (ho : w.overrunEntry = false) (hm : w.s.ctl.mode ≠ .serving)
    (hr : w.recompute = true) (h : (w.settle before).s.Closes t) : t.auth = w.s.restingAuthority := by
  rw [Work.settle_of_recompute hr] at h
  exact ((Work.recomputedInto_of_closes ho h).1 hm).2.1

theorem Work.settle_closes_reserved (h : (w.settle before).s.Closes t) : t.reserved = w.s.reserved :=
  h.reserved.trans (w.settle_reserved before)

theorem Work.settle_closes_body (h : (w.settle before).s.Closes t) : t.body = w.s.body :=
  h.body.trans (w.settle_body before)

theorem Work.settle_closes_counters (h : (w.settle before).s.Closes t) : t.link.counters = w.s.link.counters :=
  h.counters.trans (w.settle_grows before).counters

/-- With nothing outstanding after the work, none is outstanding at the end. -/
theorem Work.settle_closes_outstanding (ho : w.overrunEntry = false) (hm : w.s.ctl.mode ≠ .serving)
    (hn : w.s.link.outstanding = []) (h : (w.settle before).s.Closes t) : t.link.outstanding = [] := by
  rw [Work.settle_of_not_serving ho hm] at h
  exact h.outstanding hm hn

theorem Work.settle_closes_pending (ho : w.overrunEntry = false) (hm : w.s.ctl.mode ≠ .serving)
    (h : (w.settle before).s.Closes t) : t.link.pendingIssue = w.s.link.pendingIssue := by
  rw [Work.settle_of_not_serving ho hm] at h
  exact h.pending hm

/-- A notice that the work has queued is sent with the mode that the event leaves. -/
theorem State.queued.settled {s : State} {n n' : Notice} (hq : s.queued w.s.link n)
    (h : (w.settle before).s.Closes t) (hn : OutItem.complete t.ctl.mode (.notice n) = .notice n') : s.noticed t n' :=
  (hq.grows (w.settle_grows before)).noticed h (h.ctl ▸ hn)

end

end Sys2Proof.Machine

/-!
PROOF. The supervision timer, the external-stop input, a failed beacon, and the listen timer (R133, R141,
R142, R151, R168).
-/

namespace Sys2Proof.Machine

/-- Settles O57. -/
theorem supervisionExpiryStops : Obligations.SupervisionExpiryStops := by
  unfold Obligations.SupervisionExpiryStops
  intro s o os hh _ hm ho hd
  have hdue : s.superviseDue = true := by
    unfold State.superviseDue
    rw [ho]
    exact decide_eq_true hd
  let u : State := (s.count .supervisionExpiries).emptyOutstanding
  have hclose : ((((Work.begin u).raise .driveSilent)).settle s).s.Closes (s.event Work.supervisionExpired) :=
    s.event_closes Work.supervisionExpired
  have hms : (Work.begin u).s.ctl.mode = .serving := hm
  have hnot : ((Work.begin u).raise .driveSilent).s.ctl.mode ≠ .serving := Work.raise_not_serving nofun
  have hentry : ((Work.begin u).raise .driveSilent).overrunEntry = false := Work.raise_overrunEntry _ _
  have hbody : ((Work.begin u).raise .driveSilent).s.body = s.body := (Work.raise_body _ _).trans rfl
  obtain ⟨hout, hpend, hclaims⟩ := Work.raise_of_serving (c := .driveSilent) nofun hms
  refine ⟨_, congrArg Host.Outcome.next (State.ifDue_of_due _ hh hdue), ?_,
    (Work.settle_closes_counters hclose).trans (Work.raise_grows _ _).counters,
    Work.settle_closes_outstanding hentry hnot hout hclose, (Work.settle_closes_pending hentry hnot hclose).trans hpend,
    (Work.settle_closes_claims hentry hnot hclose).trans hclaims, ?_, fun hn => ?_,
    State.body_eq_iff.mp ((Work.settle_closes_body hclose).trans hbody)⟩
  · rw [State.stoppedBy, Work.settle_closes_ctl hentry hnot hclose]
    exact Work.raise_stopped nofun (.inl hms)
  · rw [Work.settle_closes_auth hentry hnot (Work.raise_recompute nofun (.inl hms)) hclose]
    exact State.restingAuthority_of_body hbody s.auth.overrun (by rw [Work.raise_auth (c := .driveSilent) nofun]; rfl)
  · have hq : s.queued ((Work.begin u).raise .driveSilent).s.link _ := Work.raise_queued (w := Work.begin u) nofun hn
    refine hq.settled hclose ?_
    rw [Work.settle_closes_ctl hentry hnot hclose, (Work.raise_stopped (c := .driveSilent) nofun (.inl hms)).1]
    rfl

/-! ### The external-stop input (R151) -/

/-- The state whose external-stop input has been taken at a level. -/
def State.externalTaken (s : State) (a : Bool) : State :=
  { s with extPin := a, ctl := { s.ctl with external := a } }

theorem State.externalEdge_taken {s : State} {a : Bool} (hh : s.held = false) (hm : s.ctl.mode ≠ .init)
    (hx : s.ctl.external ≠ a) : s.externalEdge a
      = (s.externalTaken a).event fun w => if a then w.raise .external else w := by
  unfold State.externalEdge
  dsimp only
  rw [if_neg]
  · rfl
  · rintro (h | h | h)
    · exact absurd (hh.symm.trans h) nofun
    · exact hm h
    · exact hx h

/-- Settles O56. -/
theorem externalEdgeRaisesExternal : Obligations.ExternalEdgeRaisesExternal := by
  unfold Obligations.ExternalEdgeRaisesExternal
  intro s hh hc
  refine ⟨fun a hm => congrArg Host.Outcome.next (if_pos (.inr (.inl hm))), fun hm hx => ?_, fun hm hx => ?_⟩
  · refine congrArg Host.Outcome.next ((State.externalEdge_taken hh hm (by rw [hx]; decide)).trans ?_)
    exact State.event_plain rfl rfl hc
  · let w := (Work.begin (s.externalTaken true)).raise .external
    have hclose : (w.settle (s.externalTaken true)).s.Closes
        ((s.externalTaken true).event fun w => if true then w.raise .external else w) :=
      State.event_closes _ fun w => if true then w.raise .external else w
    have hnot : w.s.ctl.mode ≠ .serving := Work.raise_not_serving nofun
    have hentry : w.overrunEntry = false := Work.raise_overrunEntry _ _
    have hbody : w.s.body = (s.externalTaken true).body := Work.raise_body _ _
    have hctl := Work.settle_closes_ctl hentry hnot hclose
    obtain ⟨hroute, hpos, hpeers, hbeacon, hconfig, hrx, hext, hreset, hsupply, hnow, -⟩ :=
      State.body_eq_iff.mp ((Work.settle_closes_body hclose).trans hbody)
    refine ⟨_, congrArg Host.Outcome.next (State.externalEdge_taken hh hm (by rw [hx]; decide)), hext, ?_, ?_,
      fun hs => ?_, fun hs => ?_, fun hl hst => ?_, fun hn => ?_,
      (Work.settle_closes_counters hclose).trans (Work.raise_grows _ _).counters,
      (Work.settle_closes_reserved hclose).trans (Work.raise_reserved nofun),
      hroute, hpos, hpeers, hbeacon, hconfig, hrx, hreset, hsupply, hnow⟩
    · obtain ⟨m, l, h, -⟩ := Work.raise_ctl (w := Work.begin (s.externalTaken true)) (c := .external) nofun
      rw [hctl, h, State.recordCause_ctl]
      show (if _ then _ else _ : ModeController).external = true
      split <;> rfl
    · rw [hctl]
      exact Work.raise_has nofun
    · have hstops : (Work.begin (s.externalTaken true)).s.stopsOnRaise := hs.elim .inl fun h => .inr (.inl h)
      rw [State.stoppedBy, hctl, Work.settle_closes_auth hentry hnot (Work.raise_recompute nofun hstops) hclose]
      exact ⟨Work.raise_stopped nofun hstops,
        State.restingAuthority_of_body (s := s.externalTaken true) hbody s.auth.overrun
          (congrArg AuthorityUnit.overrun (Work.raise_auth (w := Work.begin (s.externalTaken true)) (c := .external) nofun))⟩
    · exact Work.settle_closes_outstanding hentry hnot (Work.raise_of_serving (w := Work.begin (s.externalTaken true))
        (c := .external) nofun hs).1 hclose
    · rw [hctl]
      refine (Work.raise_stays_mode ?_).trans hl
      rintro (h | h | ⟨-, h⟩)
      · exact absurd (hl.symm.trans h) nofun
      · exact absurd (hl.symm.trans h) nofun
      · exact absurd (hst.symm.trans h) nofun
    · have hq : s.queued w.s.link _ := Work.raise_queued (w := Work.begin (s.externalTaken true)) nofun hn
      exact hq.settled hclose rfl

/-! ### A failed beacon (R133) -/

/-- A TX_DONE of two bytes, while a beacon is in flight (R131). -/
theorem Work.txDone_of_flight {w w' : Work} {b : InFlight} {tag status : Byte} (hb : w.s.beacon.inFlight = some b)
    (h : (if tag ≠ b.seq then w
      else if status = 0x00#8 then w.on (·.beaconConfirmed b)
      else if status = 0x01#8 then w.beaconFailed
      else w) = w') : w.airEvent (.frame 0x02#8 [tag, status]) = w' := by
  show w.txDone [tag, status] = w'
  unfold Work.txDone
  rw [hb]
  exact h

/-- The state once the failure of the beacon in flight is counted. -/
def State.failureCounted (s : State) : State :=
  (s.count .beaconsDropped).setBeacon { s.beacon with failures := satAdd 255 s.beacon.failures 1 }

/-- Settles O52: both commands are the one event of a failure. -/
theorem beaconFailureCountsAndRaises : Obligations.BeaconFailureCountsAndRaises := by
  unfold Obligations.BeaconFailureCountsAndRaises
  intro s b hh hc hb failed fails
  have below (h : failed.failures < s.config.params.airFailLimit) : s.event Work.beaconFailed = State.transmit { s with
      beacon := failed
      link := { s.link with counters := s.link.counters.bump .beaconsDropped } } := by
    refine State.event_plain ?_ rfl hc
    have hno : ¬ s.failureCounted.config.params.airFailLimit ≤ s.failureCounted.beacon.failures := Nat.not_le.mpr h
    show (if s.failureCounted.config.params.airFailLimit ≤ s.failureCounted.beacon.failures then
      (Work.begin s.failureCounted).raise .airFault else Work.begin s.failureCounted).on (·.clearInFlight) = _
    rw [if_neg hno]
    rfl
  have above (h : s.config.params.airFailLimit ≤ failed.failures) : ∃ t, s.event Work.beaconFailed = t
        ∧ t.beacon = failed ∧ t.link.counters = s.link.counters.bump .beaconsDropped
        ∧ t.ctl.causes.has .airFault = true ∧ t.ctl.markAirFault = false
        ∧ (s.ctl.mode = .serving ∨ s.ctl.mode = .parked → t.stoppedBy .airFault)
        ∧ (s.ctl.causes.airFault = false → s.noticed t (.stopped .airFault (some t.ctl.mode)))
        ∧ t.reserved = s.reserved ∧ t.route = s.route ∧ t.pos = s.pos ∧ t.peers = s.peers
        ∧ t.config = s.config ∧ s.sameOutside t := by
    let raised := (Work.begin s.failureCounted).raise .airFault
    let w := raised.on (·.clearInFlight)
    have hwork : Work.beaconFailed (Work.begin s) = w := by
      have hyes : s.failureCounted.config.params.airFailLimit ≤ s.failureCounted.beacon.failures := h
      show (if s.failureCounted.config.params.airFailLimit ≤ s.failureCounted.beacon.failures then
        (Work.begin s.failureCounted).raise .airFault else Work.begin s.failureCounted).on (·.clearInFlight) = _
      rw [if_pos hyes]
    have hclose := s.event_closes Work.beaconFailed
    rw [hwork] at hclose
    have hnot : w.s.ctl.mode ≠ .serving := Work.raise_not_serving (w := Work.begin s.failureCounted) (c := .airFault) nofun
    have hentry : w.overrunEntry = false := Work.raise_overrunEntry (Work.begin s.failureCounted) .airFault
    have hctl := Work.settle_closes_ctl hentry hnot hclose
    obtain ⟨hroute, hpos, hpeers, hbeacon, hconfig, hsame⟩ :=
      State.body_eq_iff.mp (Work.raise_body (Work.begin s.failureCounted) .airFault)
    obtain ⟨hroute', hpos', hpeers', hbeacon', hconfig', hsame'⟩ := State.body_eq_iff.mp (Work.settle_closes_body hclose)
    refine ⟨_, rfl, ?_, ?_, ?_, ?_, fun hs => ?_, fun hn => ?_, ?_, hroute'.trans hroute, hpos'.trans hpos,
      hpeers'.trans hpeers, hconfig'.trans hconfig, ?_⟩
    · rw [hbeacon']
      show { raised.s.beacon with inFlight := none } = failed
      rw [hbeacon]
      rfl
    · exact (Work.settle_closes_counters hclose).trans (Work.raise_grows (Work.begin s.failureCounted) .airFault).counters
    · rw [hctl]
      exact Work.raise_has (w := Work.begin s.failureCounted) nofun
    · obtain ⟨m, l, h, -⟩ := Work.raise_ctl (w := Work.begin s.failureCounted) (c := .airFault) nofun
      rw [hctl]
      show raised.s.ctl.markAirFault = false
      rw [h, State.recordCause_ctl]
      show (if _ then _ else _ : ModeController).markAirFault = false
      split <;> rfl
    · rw [State.stoppedBy, hctl]
      exact Work.raise_stopped (w := Work.begin s.failureCounted) nofun (hs.elim .inl fun h => .inr (.inl h))
    · have hq : s.queued w.s.link _ := Work.raise_queued (w := Work.begin s.failureCounted) nofun hn
      exact hq.settled hclose rfl
    · exact (Work.settle_closes_reserved hclose).trans (Work.raise_reserved (w := Work.begin s.failureCounted) nofun)
    · exact State.outside_eq_iff.mp ((State.outside_eq_iff.mpr hsame').trans (State.outside_eq_iff.mpr hsame))
  have settles (c : Instr) (h : exec c s = .next (s.event Work.beaconFailed)) : fails c := by
    refine ⟨fun hl => h.trans (congrArg _ (below hl)), fun hl => ?_⟩
    obtain ⟨t, ht, hrest⟩ := above hl
    exact ⟨t, h.trans (congrArg _ ht), hrest⟩
  refine ⟨fun hm hr => settles _ ?_, fun hd => settles _ ?_⟩
  · refine congrArg Host.Outcome.next ((State.ifDue_of_due _ hh rfl).trans
      ((State.airBytes_frame hm hr (body := [b.seq, 0x01#8]) (Nat.le_add_left 2 248)).trans
      (congrArg (fun w : Work => ((w.settle s).close).transmit) ?_)))
    exact Work.txDone_of_flight hb (if_neg (Classical.not_not.mpr rfl))
  · refine congrArg Host.Outcome.next (State.ifDue_of_due _ hh ?_)
    rw [State.txLimitDue, hb]
    exact decide_eq_true hd

/-! ### The listen timer (R141, R142) -/

/-- The Mode Controller once the listen period is done (R141). -/
def ModeController.listened (m : ModeController) : ModeController := { m with listenFrom := none, listenDone := true }

theorem Work.listenExpired_stops {w : Work} (hm : w.s.ctl.mode = .listen) (hs : w.s.pos.start = true)
    (hc : w.s.ctl.causes.isEmpty = false) :
    w.listenExpired = (w.on fun s => s.setCtl s.ctl.listened).enterStopped := by
  unfold Work.listenExpired Work.listenExit
  rw [if_pos ⟨hm, hs⟩]
  split
  · rfl
  · refine (if_pos rfl).trans (if_neg ?_)
    show ¬ w.s.ctl.causes.isEmpty = true
    rw [hc]
    decide

theorem Work.listenExpired_serves {w : Work} (hm : w.s.ctl.mode = .listen) (hs : w.s.pos.start = true)
    (hc : w.s.ctl.causes.isEmpty = true) :
    w.listenExpired = (w.on fun s => s.setCtl s.ctl.listened).enterServing := by
  unfold Work.listenExpired Work.listenExit
  rw [if_pos ⟨hm, hs⟩]
  refine (if_neg fun hb => ?_).trans ((if_pos rfl).trans (if_pos hc))
  obtain ⟨c, -, hhas⟩ := CauseSet.beyondStartConflict_iff.mp hb
  exact absurd (((CauseSet.isEmpty_iff.mp hc) c).symm.trans hhas) nofun

/-- Settles O58. -/
theorem listenTimerEndsListenPeriod : Obligations.ListenTimerEndsListenPeriod := by
  unfold Obligations.ListenTimerEndsListenPeriod
  intro s entered hh hc hf hd
  have hdue : s.listenDue = true := by
    unfold State.listenDue
    rw [hf]
    exact decide_eq_true hd
  have hexec : exec .listenTimerExpiry s = .next (s.event Work.listenExpired) :=
    congrArg Host.Outcome.next (State.ifDue_of_due _ hh hdue)
  have hclose := s.event_closes Work.listenExpired
  have serves (hm : s.ctl.mode = .listen) (hs : s.pos.start = true) (he : s.ctl.causes.isEmpty = true) :
      (s.servingFrom s.ctl.listened).recomputedInto (s.event Work.listenExpired)
        ∧ (s.event Work.listenExpired).body = s.body := by
    rw [Work.listenExpired_serves hm hs he] at hclose
    exact State.serving_entered (l := s.link) (m := s.ctl.listened) hclose
  refine ⟨fun hm => ?_, fun hm hs he => ⟨_, hexec, ?_⟩, fun hm hs he => ⟨_, hexec, (serves hm hs he).1,
    State.body_eq_iff.mp (serves hm hs he).2⟩, fun hm hs he hv hst => ?_⟩
  · refine hexec.trans (congrArg Host.Outcome.next (State.event_plain (t := s.setCtl s.ctl.listened)
      (if_neg fun hl => ?_) rfl hc))
    exact hm.elim (fun h => h hl.1) fun h => absurd (h.symm.trans hl.2) nofun
  · rw [Work.listenExpired_stops hm hs he] at hclose
    have hctl := Work.settle_closes_ctl rfl (Work.enterStopped_not_serving _) hclose
    have hbody := (Work.settle_closes_body hclose).trans (Work.enterStopped_body _)
    refine ⟨hctl.trans (Work.enterStopped_ctl _), ?_, (Work.settle_closes_claims rfl (Work.enterStopped_not_serving _) hclose).trans
      (Work.enterStopped_claims _), State.body_eq_iff.mp hbody⟩
    rw [Work.settle_closes_auth rfl (Work.enterStopped_not_serving _) rfl hclose]
    exact State.restingAuthority_of_body (Work.enterStopped_body _) s.auth.overrun (by rw [Work.enterStopped_auth]; rfl)
  · obtain ⟨new, hctl, hauth, hlist, hnew⟩ := State.serving_stands (serves hm hs he).1 hv hst
    exact ⟨_, new, hexec, hctl, hauth, hlist, hnew, State.body_eq_iff.mp (serves hm hs he).2⟩

end Sys2Proof.Machine

/-!
PROOF. Requests and timers whose work changes claims or the route: PROCEED, TRUNCATE_ROUTE, CLEAR_PEER, the
backoff and hold timers, the ageing of peer entries (R12, R13, R17, R57, R77 to R82).
-/

namespace Sys2Proof.Machine

/-! ### Claim changes, settled -/

theorem State.reserved_of_append_tentative {cs new : List Claim} (h : ∀ c ∈ new, c.state = .tentative) :
    (cs ++ new).filter (fun c => c.state != .tentative) = cs.filter fun c => c.state != .tentative := by
  have hnone : new.filter (fun c => c.state != .tentative) = [] :=
    List.filter_eq_nil_iff.mpr fun c hc => by rw [h c hc]; decide
  rw [List.filter_append, hnone, List.append_nil]

/-- Claiming ahead changes no claim but TENTATIVE ones (R45). -/
theorem State.claimAhead_reserved (s : State) : s.claimAhead.reserved = s.reserved := by
  obtain ⟨new, h, hnew, -⟩ := s.claimAhead_spec
  rw [State.reserved, h]
  exact State.reserved_of_append_tentative fun c hc => (hnew c hc).1

theorem State.claimAhead_auth (s : State) : s.claimAhead.auth = s.auth := by
  rw [s.claimAhead_eq]
  rfl

theorem State.Alike.claimsSettledInto {s s' p p' t : State} (hs : s'.claimView = s.claimView) (ha : s'.auth = s.auth)
    (hp : p.Alike p') (hc : p'.ctl = p.ctl) (h : s.claimsSettledInto p t) : s'.claimsSettledInto p' t := by
  refine ⟨fun hv => hp.recomputedInto hc (h.1 fun he => hv ?_), fun hv => ?_⟩
  · rw [hp.claimView, hs, he]
  · obtain ⟨h1, h2, h3⟩ := h.2 (by rw [← hp.claimView, hv, hs])
    exact ⟨h1.trans hc.symm, h2.trans ha.symm, h3.trans hp.claims.symm⟩

section
variable {p t : State}

/-- A recomputation drops TENTATIVE claims at most, and these where it stops the station. -/
theorem State.recomputedInto_claims (h : p.recomputedInto t) : t.claims = p.claims
    ∨ t.claims = { p.claims with list := p.reserved } ∧ p.ctl.mode = .serving ∧ t.ctl.mode = .stopped := by
  by_cases hm : p.ctl.mode = .serving
  · by_cases hf : p.fits
    · exact .inl (h.2.1 hm hf).2.2
    · obtain ⟨⟨hstop, -⟩, -, hc, -⟩ := h.2.2 hm hf
      exact .inr ⟨hc, hm, hstop⟩
  · exact .inl (h.1 hm).2.2

theorem State.claimsSettledInto_claims {s : State} (h : s.claimsSettledInto p t) : t.claims = p.claims
    ∨ t.claims = { p.claims with list := p.reserved } ∧ p.ctl.mode = .serving ∧ t.ctl.mode = .stopped := by
  by_cases hv : p.claimView = s.claimView
  · exact .inl (h.2 hv).2.2
  · exact State.recomputedInto_claims (h.1 hv)

end

/-! ### PROCEED (R16, R17) -/

theorem firstStopIn_eq_none {es : List RouteEntry} (h : ∀ e ∈ es, e.stop = none ∨ e.released = true) (i : Nat) :
    firstStopIn es i = none := by
  induction es generalizing i with
  | nil => rfl
  | cons e es ih =>
    have hrest := ih (fun x hx => h x (List.mem_cons_of_mem _ hx)) (i + 1)
    unfold firstStopIn
    split
    next o ho =>
      rw [if_pos ((h e List.mem_cons_self).resolve_left (by rw [ho]; nofun)), hrest]
    · exact hrest

theorem firstStopIn_append_cons {before : List RouteEntry} (after : List RouteEntry) {e : RouteEntry} {o : Nat}
    (hb : ∀ x ∈ before, x.stop = none ∨ x.released = true) (ho : e.stop = some o) (hr : e.released = false) (i : Nat) :
    firstStopIn (before ++ e :: after) i = some ⟨i + before.length, o⟩ := by
  induction before generalizing i with
  | nil =>
    rw [List.nil_append, firstStopIn, ho]
    simp [hr]
  | cons x xs ih =>
    have hrest := ih (fun y hy => hb y (List.mem_cons_of_mem _ hy)) (i + 1)
    rw [List.cons_append, firstStopIn, hrest, List.length_cons, Nat.add_right_comm, Nat.add_assoc]
    split
    next p hp => exact if_pos ((hb x List.mem_cons_self).resolve_left (by rw [hp]; nofun))
    · rfl

theorem releaseFirst_append_cons {before : List RouteEntry} (after : List RouteEntry) {e : RouteEntry}
    (hb : ∀ x ∈ before, x.stop = none ∨ x.released = true) (ho : e.stop ≠ none) (hr : e.released = false) :
    releaseFirst (before ++ e :: after) = before ++ { e with released := true } :: after := by
  induction before with
  | nil =>
    rw [List.nil_append, releaseFirst, if_pos]
    · rfl
    · rw [hr, Option.isSome_iff_ne_none.mpr ho]
      rfl
  | cons x xs ih =>
    rw [List.cons_append, releaseFirst, if_neg, ih fun y hy => hb y (List.mem_cons_of_mem _ hy)]
    · rfl
    · obtain h | h := hb x List.mem_cons_self <;> simp [h]

/-- Settles O40. -/
theorem proceedReleasesFirstStopPoint : Obligations.ProceedReleasesFirstStopPoint := by
  unfold Obligations.ProceedReleasesFirstStopPoint
  intro s hi h
  refine ⟨fun hm => State.request_answers h hi rfl (if_pos hm), fun hm hall => ?_,
    fun before after e hm hes ho hr hb => ?_⟩
  · refine State.request_answers h hi rfl ((if_neg hm).trans ?_)
    have hnone : (Work.begin s.taken).s.route.firstStop = none := firstStopIn_eq_none hall _
    rw [hnone]
    rfl
  · let released := s.taken.setRoute { s.route with entries := releaseFirst s.route.entries }
    have hentries : releaseFirst s.route.entries = before ++ { e with released := true } :: after := by
      rw [hes]
      exact releaseFirst_append_cons after hb ho hr
    obtain ⟨o, ho⟩ := Option.ne_none_iff_exists'.mp ho
    have hstop : (Work.begin s.taken).s.route.firstStop = some ⟨s.route.first + before.length, o⟩ := by
      show firstStopIn s.route.entries _ = _
      rw [hes]
      exact firstStopIn_append_cons after hb ho hr _
    have hwork : Work.proceed (Work.begin s.taken) = (Work.begin released.claimAhead).owe.answer .done := by
      refine (if_neg hm).trans ?_
      rw [hstop]
      rfl
    have hclose := State.request_closes (n := 0) (f := Work.proceed) h hi rfl
    rw [hwork] at hclose
    have hbody : released.claimAhead.body = released.body := State.claimAhead_body _
    obtain ⟨hroute, hrest⟩ := State.body_eq_iff.mp ((Work.settle_closes_body hclose).trans hbody)
    have hroute : (s.request 0x09#8 0 [] Work.proceed).route
        = { s.route with entries := before ++ { e with released := true } :: after } := by
      rw [hroute, ← hentries]
      rfl
    refine ⟨_, rfl, hroute, ?_, ?_, ?_, hrest⟩
    · show State.recomputedInto (State.claimAhead { s with route := (s.request 0x09#8 0 [] Work.proceed).route }) _
      rw [hroute, ← hentries]
      have halike : released.claimAhead.Alike (State.claimAhead { s with
          route := { s.route with entries := releaseFirst s.route.entries } }) :=
        State.Alike.claimAhead ⟨rfl, rfl, rfl, rfl, rfl, rfl, rfl, rfl⟩
      rw [Work.settle_of_recompute rfl] at hclose
      exact halike.recomputedInto (by rw [State.claimAhead_ctl, State.claimAhead_ctl]; rfl)
        (Work.recomputedInto_of_closes rfl hclose)
    · refine (State.request_lastResult (n := 0) h hi rfl).trans ?_
      rw [hwork]
      rfl
    · exact (Work.settle_closes_reserved hclose).trans (State.claimAhead_reserved _)

/-! ### TRUNCATE_ROUTE (R12, R13) -/

theorem Work.truncateRoute_of_active {w : Work} (h : w.s.route.state = .active) : w.truncateRoute =
    if w.s.pos.start then (w.on (·.truncate)).answer .accepted
    else (w.on fun s => s.setRoute .reset).answer .done := by
  unfold Work.truncateRoute
  rw [h]

/-- The claims kept, with the commit point known (R13, R106). -/
theorem State.keptClaims_of_front {s : State} {front : Nat} (h : s.front? = some front) :
    s.keptClaims = s.claims.list.filter fun c => c.state == .occupied || (c.state == .held
      && decide (s.route.startOf c.index < front + s.config.params.stopping s.pos.speed + s.config.params.margin)) := by
  have hcommit : s.commit? = some (front + s.config.params.stopping s.pos.speed + s.config.params.margin) := by
    rw [State.commit?, h]
    rfl
  refine List.filter_congr fun c _ => ?_
  have hbeyond : s.beyondCommit s.commit? c = decide
      (front + s.config.params.stopping s.pos.speed + s.config.params.margin ≤ s.route.startOf c.index) := by
    rw [hcommit]
    rfl
  rw [hbeyond, ← decide_not, decide_eq_decide.mpr Nat.not_le]

theorem State.reserved_keptClaims (s : State) :
    s.keptClaims.filter (fun c => c.state != .tentative) = s.keptClaims := by
  refine List.filter_eq_self.mpr fun c hc => ?_
  have := (List.mem_filter.mp hc).2
  cases hs : c.state <;> simp_all

/-- Settles O39. -/
theorem truncateRouteKeepsWhatIsCommitted : Obligations.TruncateRouteKeepsWhatIsCommitted := by
  unfold Obligations.TruncateRouteKeepsWhatIsCommitted
  intro s hi h
  refine ⟨fun hs => State.request_answers h hi rfl ?_, fun hs => State.request_answers h hi rfl ?_, fun hs hp => ?_, ?_⟩
  · rw [Work.truncateRoute, show (Work.begin s.taken).s.route.state = _ from hs]
    rfl
  · rw [Work.truncateRoute, show (Work.begin s.taken).s.route.state = _ from hs]
    rfl
  · refine State.request_plain (t := s.taken.setRoute .reset) h hi rfl ((Work.truncateRoute_of_active hs).trans ?_) rfl
      (State.taken_complete h)
    exact if_neg (by show ¬ s.pos.start = true; rw [hp]; decide)
  · intro p front hs hp hpos hf commit kept last entries
    have hwork : (Work.begin s.taken).truncateRoute = (Work.begin s.taken.truncate).answer .accepted :=
      (Work.truncateRoute_of_active hs).trans (if_pos hp)
    have hclose := State.request_closes (f := Work.truncateRoute) h hi rfl
    rw [hwork] at hclose
    have hkept : s.taken.keptClaims = kept := State.keptClaims_of_front (s := s.taken) hf
    have hlast : s.taken.lastKept = last := by
      unfold State.lastKept
      rw [hkept]
      rfl
    have hroute : s.taken.truncate.route = ⟨entries, s.route.first + entries.length, .truncating⟩ := by
      show (⟨s.route.entries.take (s.taken.lastKept + 1 - s.route.first), _, _⟩ : RouteStore) = _
      rw [hlast]
      rfl
    have hclaims : s.taken.truncate.claims = { s.claims with list := kept, backoff := none } := by
      rw [← hkept]
      rfl
    have hplace : s.taken.truncate.pos = { s.pos with pos := some (
        if last < p.index then ⟨last, s.route.distance p - s.route.startOf last⟩ else p) } := by
      rw [← hlast]
      show ({ s.pos with pos := s.pos.pos.map _ } : PositionUnit) = _
      rw [hpos]
      rfl
    have hsettled : s.taken.claimsSettledInto s.taken.truncate (s.request 0x08#8 0 [] Work.truncateRoute) :=
      State.claimsSettled_of_closes rfl hclose
    obtain ⟨htroute, htpos, hrest⟩ := State.body_eq_iff.mp (Work.settle_closes_body hclose)
    have htclaims : (s.request 0x08#8 0 [] Work.truncateRoute).claims = s.taken.truncate.claims := by
      obtain hc | ⟨hc, -⟩ := State.claimsSettledInto_claims hsettled
      · exact hc
      · refine hc.trans ?_
        have : s.taken.truncate.reserved = s.taken.truncate.claims.list := s.taken.reserved_keptClaims
        rw [this]
    refine ⟨_, rfl, htroute.trans hroute, htclaims.trans hclaims, htpos.trans hplace, ?_, ?_, hrest⟩
    · exact State.Alike.claimsSettledInto rfl rfl ⟨htroute, htpos, htclaims, rfl, rfl, rfl, rfl, rfl⟩ rfl hsettled
    · refine (State.request_lastResult (n := 0) h hi rfl).trans ?_
      rw [hwork]
      rfl

end Sys2Proof.Machine

/-!
PROOF. The ageing and removal of peer entries, and the timers that let claiming ahead go on (R57, R77 to
R82).
-/

namespace Sys2Proof.Machine

/-! ### A peer entry removed (R79, R80, R82) -/

theorem State.evaluatePromotion_ctl (s : State) : s.evaluatePromotion.ctl = s.ctl := by
  obtain ⟨k, h⟩ := s.evaluatePromotion_claims
  rw [h]
  rfl

theorem State.evaluatePromotion_link (s : State) : s.evaluatePromotion.link = s.link := by
  obtain ⟨k, h⟩ := s.evaluatePromotion_claims
  rw [h]
  rfl

/-- What promotion makes of a state is recomputed into the same where a state alike with the same Mode
Controller is promoted. -/
theorem State.Alike.promotedInto {s s' t : State} (h : s.Alike s') (hc : s'.ctl = s.ctl)
    (hinto : s.evaluatePromotion.recomputedInto t) : s'.evaluatePromotion.recomputedInto t :=
  State.Alike.recomputedInto h.evaluatePromotion
    (by rw [State.evaluatePromotion_ctl, State.evaluatePromotion_ctl, hc]) hinto

/-- The work of a removal without eviction, and its hand-on. -/
def State.removalOf (u : State) (k : Nat) (e : PeerEntry) : Work :=
  ((Work.begin u).on (·.removePeer k e false)).peersChanged

theorem PeerTable.entryIn_eq_some {p : PeerTable} {k : Nat} {e : PeerEntry} :
    p.entryIn k = some e ↔ p.slots[k]? = some (some e) := by
  rw [PeerTable.entryIn]
  cases p.slots[k]? with
  | none => simp
  | some o => cases o <;> simp

theorem Work.dropPeer_of_entry {w : Work} {k : Nat} {e : PeerEntry} (h : w.s.peers.slots[k]? = some (some e)) :
    w.dropPeer k = (w.on (·.removePeer k e false)).peersChanged := by
  unfold Work.dropPeer
  rw [PeerTable.entryIn_eq_some.mpr h]

section
variable {u t before : State} {k : Nat} {e : PeerEntry}

/-- What an event that removes an entry leads to, besides the blocks it leaves. -/
structure State.LosesPeer (u t : State) (k : Nat) (e : PeerEntry) : Prop where
  peers : t.peers = { u.peers with slots := u.peers.slots.set k none }
  notice : u.noticed t (.peerLost e.id (e.claims.filter fun p => p.state == .occupied).length false)
  settled : State.recomputedInto (State.evaluatePromotion { u with peers := t.peers }) t
  counters : t.link.counters = u.link.counters
  rest : t.route = u.route ∧ t.pos = u.pos ∧ t.beacon = u.beacon ∧ t.config = u.config ∧ u.sameOutside t

theorem State.removalOf_closes (h : ((u.removalOf k e).settle before).s.Closes t) : u.LosesPeer t k e := by
  let n : Notice := .peerLost e.id e.occupiedCount false
  obtain ⟨l, hl⟩ := u.queueNotice_link n
  have hstate : u.removePeer k e false = (u.setLink l).putSlot k none := by
    unfold State.removePeer
    rw [hl]
  have hs : (u.removalOf k e).s = ((u.setLink l).putSlot k none).evaluatePromotion := by
    rw [← hstate]
    rfl
  have hbody : (u.removalOf k e).s.body = ((u.setLink l).putSlot k none).body := by
    rw [hs]
    exact State.evaluatePromotion_body _
  obtain ⟨hroute, hpos, hpeers, hbeacon, hconfig, hsame⟩ := State.body_eq_iff.mp ((Work.settle_closes_body h).trans hbody)
  have hlink : (u.removalOf k e).s.link = (u.queueNotice n).link := by
    rw [hs, State.evaluatePromotion_link, hl]
    rfl
  refine ⟨hpeers, ?_, ?_, ?_, hroute, hpos, hbeacon, hconfig, hsame⟩
  · have hq : u.queued (u.removalOf k e).s.link n := by
      rw [hlink]
      exact u.queueNotice_queued n
    exact hq.settled h rfl
  · rw [hpeers]
    rw [Work.settle_of_recompute rfl] at h
    have hinto := Work.recomputedInto_of_closes rfl h
    rw [hs] at hinto
    exact State.Alike.promotedInto (s := (u.setLink l).putSlot k none) ⟨rfl, rfl, rfl, rfl, rfl, rfl, rfl, rfl⟩ rfl hinto
  · rw [Work.settle_closes_counters h, hlink]
    exact (u.queueNotice_grows n).counters

end

theorem PeerTable.slotOf_first {t : PeerTable} {k : Nat} {e : PeerEntry} (he : t.slots[k]? = some (some e))
    (hfirst : ∀ j < k, ∀ x, t.slots[j]? = some (some x) → x.id ≠ e.id) : t.slotOf e.id = some k := by
  obtain ⟨hk, hget⟩ := List.getElem?_eq_some_iff.mp he
  rw [PeerTable.slotOf, List.findIdx?_eq_some_iff_getElem]
  refine ⟨hk, by rw [hget]; exact beq_self_eq_true _, fun j hj => ?_⟩
  have hjlt : j < t.slots.length := Nat.lt_trans hj hk
  cases hx : t.slots[j] with
  | none => exact Bool.false_ne_true
  | some x =>
    show ¬ (x.id == e.id) = true
    rw [beq_iff_eq]
    exact hfirst j hj x (List.getElem?_eq_some_iff.mpr ⟨hjlt, hx⟩)

theorem PeerTable.slotOf_absent {t : PeerTable} {id : StationId} (h : ∀ e ∈ t.entries, e.id ≠ id) :
    t.slotOf id = none := by
  rw [PeerTable.slotOf, List.findIdx?_eq_none_iff]
  intro o ho
  cases o with
  | none => rfl
  | some e => exact beq_eq_false_iff_ne.mpr (h e (List.mem_filterMap.mpr ⟨_, ho, rfl⟩))

/-- Settles O45. -/
theorem clearPeerRemovesStaleEntry : Obligations.ClearPeerRemovesStaleEntry := by
  unfold Obligations.ClearPeerRemovesStaleEntry
  intro s id hi h
  refine ⟨fun hnone => State.request_answers h hi rfl ?_, fun k e hk hid hfirst => ?_⟩
  · show Work.clearPeer _ _ = _
    rw [Work.clearPeer, show (Work.begin s.taken).s.peers.slotOf id = none from PeerTable.slotOf_absent hnone]
    rfl
  · have hwork : (Work.begin s.taken).clearPeer id = if e.age = .fresh then (Work.begin s.taken).answer .peerFresh
        else ((Work.begin s.taken).dropPeer k).answer .done := by
      subst hid
      unfold Work.clearPeer
      rw [show (Work.begin s.taken).s.peers.slotOf e.id = some k from PeerTable.slotOf_first hk hfirst]
      dsimp only
      rw [show (Work.begin s.taken).s.peers.entryIn k = some e from PeerTable.entryIn_eq_some.mpr hk]
    refine ⟨fun ha => State.request_answers h hi rfl (hwork.trans (if_pos ha)), fun ha => ?_⟩
    have hdrop : (Work.begin s.taken).clearPeer id = (s.taken.removalOf k e).answer .done := by
      rw [hwork, if_neg (by rw [ha]; nofun), Work.dropPeer_of_entry hk]
      rfl
    have hclose := State.request_closes (f := fun w : Work => w.clearPeer id) (n := 1) h hi rfl
    rw [hdrop] at hclose
    obtain ⟨hpeers, hnotice, hsettled, -, hrest⟩ := State.removalOf_closes hclose
    refine ⟨_, rfl, hpeers, hid ▸ hnotice, ?_, ?_, hrest⟩
    · exact State.Alike.promotedInto
        (s := { s.taken with peers := (s.request 0x0F#8 1 [id] fun w : Work => w.clearPeer id).peers })
        ⟨rfl, rfl, rfl, rfl, rfl, rfl, rfl, rfl⟩ rfl hsettled
    · refine (State.request_lastResult (n := 1) h hi rfl).trans ?_
      exact congrArg (fun a : Answer => some (0x0F#8, a.code)) hdrop

/-! ### Peer entries age (R78, R79) -/

theorem Frame.command_ne_peerStale (f : Frame) (k : Nat) : f.command ≠ .peerStale k := by
  unfold Frame.command
  split <;> nofun

/-- An entry due to be removed has no step of its own to become STALE (R79). -/
theorem State.peerStale_not_due {s : State} {k : Nat} (h : s.expireDue k = true) : .peerStale k ∉ s.due := by
  have request : Instr.peerStale k ∉ s.dueRequest := by
    unfold State.dueRequest
    split
    · exact List.not_mem_nil
    · split
      · exact List.not_mem_nil
      next f fs _ => exact fun hk => f.command_ne_peerStale k (List.mem_singleton.mp hk).symm
  have own (b : Bool) (c : Instr) (hc : c ≠ .peerStale k) : Instr.peerStale k ∉ whenDue b c := by
    unfold whenDue
    split
    · exact fun hk => hc (List.mem_singleton.mp hk).symm
    · exact List.not_mem_nil
  have stale (j : Nat) : Instr.peerStale k ∉ whenDue (s.staleDue j && !s.expireDue j) (.peerStale j) := by
    by_cases hj : j = k
    · rw [hj, h, Bool.not_true, Bool.and_false]
      exact List.not_mem_nil
    · exact own _ _ fun he => hj (Instr.peerStale.inj he)
  unfold State.due
  split
  · exact List.not_mem_nil
  · split
    · exact fun hk => nomatch List.mem_singleton.mp hk
    · simp only [List.mem_append, List.mem_flatMap, not_or, not_exists, not_and]
      exact ⟨⟨⟨⟨⟨⟨⟨⟨⟨⟨⟨⟨own _ _ nofun, request⟩, own _ _ nofun⟩, own _ _ nofun⟩, own _ _ nofun⟩, own _ _ nofun⟩,
        own _ _ nofun⟩, fun _ _ => own _ _ nofun⟩, fun _ _ => own _ _ nofun⟩, own _ _ nofun⟩, own _ _ nofun⟩,
        fun j _ => stale j⟩, fun _ _ => own _ _ nofun⟩

/-- The claim engine after claiming ahead (R45). -/
theorem State.claimAhead_claims (s : State) : ∃ list next,
    s.claimAhead.claims = { s.claims with list := list, nextIdentity := next } := by
  obtain ⟨new, h, -⟩ := s.claimAhead_spec
  rw [h]
  exact ⟨_, _, rfl⟩

section
variable {s p t : State}

/-- What an event whose work is claiming ahead leads to (R57, R63, R77). -/
theorem State.claimAhead_closes (hp : p.auth = s.auth) (hl : p.link = s.link)
    (h : ((Work.begin p.claimAhead).settle s).s.Closes t) : s.claimsSettledInto p.claimAhead t
      ∧ t.claims.backoff = p.claims.backoff ∧ t.reserved = p.reserved ∧ t.claims.deferral = p.claims.deferral
      ∧ t.claims.urgency = p.claims.urgency ∧ t.link.counters = s.link.counters ∧ t.body = p.body := by
  have hsettled := State.claimsSettled_of_closes (p.claimAhead_auth.trans hp) h
  obtain ⟨list, next, hk⟩ := p.claimAhead_claims
  have hkeeps : t.claims.backoff = p.claims.backoff ∧ t.claims.deferral = p.claims.deferral
      ∧ t.claims.urgency = p.claims.urgency := by
    obtain hc | ⟨hc, -⟩ := State.claimsSettledInto_claims hsettled <;> rw [hc, hk] <;> exact ⟨rfl, rfl, rfl⟩
  refine ⟨hsettled, hkeeps.1, (Work.settle_closes_reserved h).trans p.claimAhead_reserved, hkeeps.2.1, hkeeps.2.2,
    (Work.settle_closes_counters h).trans ?_, (Work.settle_closes_body h).trans p.claimAhead_body⟩
  show p.claimAhead.link.counters = _
  rw [p.claimAhead_link, hl]

end

theorem State.staleDue_iff {s : State} {k : Nat} {e : PeerEntry} (h : s.peers.slots[k]? = some (some e)) :
    s.staleDue k = true ↔ e.age = .fresh ∧ e.lastHeard + s.config.params.peerStale ≤ s.now := by
  rw [State.staleDue, PeerTable.entryIn_eq_some.mpr h]
  simp

theorem State.expireDue_iff {s : State} {k : Nat} {e : PeerEntry} (h : s.peers.slots[k]? = some (some e)) :
    s.expireDue k = true ↔ e.lastHeard + s.config.params.peerExpire ≤ s.now := by
  rw [State.expireDue, PeerTable.entryIn_eq_some.mpr h, decide_eq_true_iff]

theorem State.makeStale_of_entry {s : State} {k : Nat} {e : PeerEntry} (h : s.peers.slots[k]? = some (some e)) :
    s.makeStale k = s.putSlot k (some { e with age := .stale }) := by
  rw [State.makeStale, PeerTable.entryIn_eq_some.mpr h]

/-- An entry that becomes STALE and is removed at one expiry is removed as it would be alone (R79). -/
theorem State.LosesPeer.of_makeStale {s t : State} {k : Nat} {e : PeerEntry}
    (h : (s.putSlot k (some { e with age := .stale })).LosesPeer t k { e with age := .stale }) : s.LosesPeer t k e := by
  obtain ⟨hpeers, hnotice, hsettled, hcounters, hrest⟩ := h
  refine ⟨hpeers.trans ?_, hnotice, ?_, hcounters, hrest⟩
  · show ({ s.peers with slots := (s.peers.slots.set k _).set k none } : PeerTable) = _
    rw [List.set_set]
  · exact State.Alike.promotedInto (s := { s.putSlot k (some { e with age := .stale }) with peers := t.peers })
      ⟨rfl, rfl, rfl, rfl, rfl, rfl, rfl, rfl⟩ rfl hsettled

/-- Settles O60. -/
theorem backoffHoldAndPeerAgeing : Obligations.BackoffHoldAndPeerAgeing := by
  unfold Obligations.BackoffHoldAndPeerAgeing
  intro s hh hc same
  refine ⟨fun due hb hd => ?_, fun due hb hd => ?_, fun k e hk => ?_⟩
  · have hexec : exec .backoffExpiry s = .next (s.event fun w => w.on (·.backoffExpired)) :=
      congrArg Host.Outcome.next (State.ifDue_of_due _ hh (by rw [hb]; exact decide_eq_true hd))
    obtain ⟨hsettled, hback, hres, hdef, hurg, hcnt, hbody⟩ := State.claimAhead_closes (s := s)
      (p := s.setClaims { s.claims with backoff := none }) rfl rfl (s.event_closes fun w => w.on (·.backoffExpired))
    obtain ⟨hroute, hpos, hpeers, hbeacon, hconfig, hsame⟩ := State.body_eq_iff.mp hbody
    exact ⟨_, hexec, hback, hsettled, hpeers, hres, hdef, hurg, hcnt, hroute, hpos, hbeacon, hconfig, hsame⟩
  · have hexec : exec .tableOverflowHoldExpiry s = .next (s.event fun w => w.on (·.holdRunOut)) :=
      congrArg Host.Outcome.next (State.ifDue_of_due _ hh (by rw [hb]; exact decide_eq_true hd))
    obtain ⟨hsettled, hback, hres, hdef, hurg, hcnt, hbody⟩ := State.claimAhead_closes (s := s)
      (p := s.setPeers { s.peers with hold := none }) rfl rfl (s.event_closes fun w => w.on (·.holdRunOut))
    obtain ⟨hroute, hpos, hpeers, hbeacon, hconfig, hsame⟩ := State.body_eq_iff.mp hbody
    refine ⟨_, hexec, hpeers, ?_, hback, hres, hdef, hurg, hcnt, hroute, hpos, hbeacon, hconfig, hsame⟩
    rw [hpeers]
    exact hsettled
  · have lost (c : Instr) {t : State} (hexec : exec c s = .next t) (h : s.LosesPeer t k e) : ∃ t, exec c s = .next t
        ∧ t.peers = { s.peers with slots := s.peers.slots.set k none }
        ∧ s.noticed t (.peerLost e.id (e.claims.filter fun p => p.state == .occupied).length false)
        ∧ ({ s with peers := t.peers } : State).evaluatePromotion.recomputedInto t
        ∧ t.link.counters = s.link.counters
        ∧ t.route = s.route ∧ t.pos = s.pos ∧ t.beacon = s.beacon ∧ t.config = s.config
        ∧ s.sameOutside t :=
      ⟨t, hexec, h.peers, h.notice, h.settled, h.counters, h.rest⟩
    intro removed stale expired
    refine ⟨fun hs hx => ?_, fun hs hx => ?_, fun hx => ⟨?_, State.peerStale_not_due ((State.expireDue_iff hk).mpr hx)⟩⟩
    · refine congrArg Host.Outcome.next ((State.ifDue_of_due _ hh ((State.staleDue_iff hk).mpr hs)).trans ?_)
      refine (if_neg fun he => hx ((State.expireDue_iff hk).mp he)).trans ((State.makeStale_of_entry hk).trans rfl)
    · have hexpire := (State.expireDue_iff hk).mpr hx
      refine lost _ (congrArg Host.Outcome.next ((State.ifDue_of_due _ hh ((State.staleDue_iff hk).mpr hs)).trans
        (if_pos hexpire))) (State.LosesPeer.of_makeStale ?_)
      have hk' : (s.putSlot k (some { e with age := .stale })).peers.slots[k]? = some (some { e with age := .stale }) :=
        List.getElem?_set_self (List.getElem?_eq_some_iff.mp hk).1
      have hwork : (Work.begin s).ageSlot k
          = (s.putSlot k (some { e with age := .stale })).removalOf k { e with age := .stale } := by
        unfold Work.ageSlot
        dsimp only
        rw [if_pos (show (Work.begin s).s.staleDue k = true from (State.staleDue_iff hk).mpr hs)]
        have hon : (Work.begin s).on (·.makeStale k) = Work.begin (s.putSlot k (some { e with age := .stale })) :=
          congrArg Work.begin (State.makeStale_of_entry hk)
        rw [hon]
        exact (if_pos ((State.expireDue_iff hk').mpr hx)).trans (Work.dropPeer_of_entry hk')
      have hclose := s.event_closes fun w => w.ageSlot k
      rw [hwork] at hclose
      exact State.removalOf_closes hclose
    · have hclose := s.event_closes fun w => w.dropPeer k
      rw [Work.dropPeer_of_entry hk] at hclose
      exact lost _ (congrArg Host.Outcome.next (State.ifDue_of_due _ hh ((State.expireDue_iff hk).mpr hx)))
        (State.removalOf_closes hclose)

end Sys2Proof.Machine

/-!
PROOF. Claiming ahead and promotion, and the timers and confirmations that lead to them (R44 to R50, R131,
R132).
-/

namespace Sys2Proof.Machine

/-! ### Claiming ahead (R44, R45) -/

theorem RouteStore.admits_iff {r : RouteStore} {i : Nat} :
    r.admits i = true ↔ ∀ p, r.firstStop = some p → i ≤ p.index := by
  unfold RouteStore.admits
  cases r.firstStop <;> simp

theorem State.nextToClaim_iff {s : State} {i : Nat} {e : RouteEntry} : s.nextToClaim = some (i, e) ↔
    ∃ last front, s.claims.list.getLast? = some last ∧ s.front? = some front
      ∧ i = last.index + 1 ∧ s.route.entry? i = some e
      ∧ s.ctl.mode = .serving ∧ s.route.state = .active
      ∧ s.claims.backoff = none ∧ s.peers.hold = none
      ∧ s.claims.list.length < 12
      ∧ (s.claims.list.filter fun c => c.state == .tentative).length < 3
      ∧ (∀ p, s.route.firstStop = some p → i ≤ p.index)
      ∧ s.route.startOf i < front + s.config.horizon := by
  have ahead (last : Claim) (front : Nat) : (s.route.endOf last.index : Int) - front < s.config.horizon
      ↔ s.route.startOf (last.index + 1) < front + s.config.horizon := by
    rw [RouteStore.endOf]
    omega
  constructor
  · intro h
    unfold State.nextToClaim at h
    split at h
    next last front hlast hfront =>
      split at h
      next x hx =>
        split at h
        next hcond =>
          cases h
          obtain ⟨hm, ha, hb, hh, hl, ht, hstop, hz⟩ := hcond
          exact ⟨last, front, hlast, hfront, rfl, hx, hm, ha, hb, hh, hl, ht, RouteStore.admits_iff.mp hstop,
            (ahead last front).mp hz⟩
        · cases h
      · cases h
    · cases h
  · rintro ⟨last, front, hlast, hfront, rfl, hx, hm, ha, hb, hh, hl, ht, hstop, hz⟩
    unfold State.nextToClaim
    rw [hlast, hfront]
    dsimp only
    rw [hx]
    exact if_pos ⟨hm, ha, hb, hh, hl, ht, RouteStore.admits_iff.mpr hstop, (ahead last front).mpr hz⟩

/-- Twelve turns are enough: with room for at most `n` claims, `n` turns end the evaluation (R45). -/
theorem claimAheadLoop_ends (n : Nat) {s : State} (h : 12 ≤ s.claims.list.length + n) :
    claimAheadLoop (n + 1) s = claimAheadLoop n s ∧ (claimAheadLoop n s).nextToClaim = none := by
  induction n generalizing s with
  | zero =>
    have hn : s.nextToClaim = none := by
      cases hx : s.nextToClaim with
      | none => rfl
      | some x =>
        obtain ⟨-, -, -, -, hl⟩ := State.nextToClaim_spec hx
        omega
    refine ⟨?_, hn⟩
    unfold claimAheadLoop
    rw [hn]
  | succ n ih =>
    cases hx : s.nextToClaim with
    | none =>
      have stop (m : Nat) : claimAheadLoop (m + 1) s = s := by
        unfold claimAheadLoop
        rw [hx]
      rw [stop, stop]
      exact ⟨rfl, hx⟩
    | some x =>
      have turn (m : Nat) : claimAheadLoop (m + 1) s
          = claimAheadLoop m (s.addClaim (s.newClaim x.1 x.2 .tentative 0 none)) := by
        conv => lhs; unfold claimAheadLoop
        rw [hx]
      rw [turn, turn]
      refine ih ?_
      show 12 ≤ (s.claims.list ++ [_]).length + n
      rw [List.length_append, List.length_singleton]
      omega

theorem State.claimAhead_nextToClaim (s : State) : s.claimAhead.nextToClaim = none :=
  (claimAheadLoop_ends 12 (Nat.le_add_left 12 _)).2

theorem State.claimAhead_of_none {s : State} (h : s.nextToClaim = none) : s.claimAhead = s := by
  show claimAheadLoop 12 s = s
  unfold claimAheadLoop
  rw [h]

theorem State.claimAhead_of_some {s : State} {i : Nat} {e : RouteEntry} (h : s.nextToClaim = some (i, e)) :
    s.claimAhead = (s.addClaim (s.newClaim i e .tentative 0 none)).claimAhead := by
  have hturn : s.claimAhead = claimAheadLoop 11 (s.addClaim (s.newClaim i e .tentative 0 none)) := by
    show claimAheadLoop 12 s = _
    conv => lhs; unfold claimAheadLoop
    rw [h]
  obtain ⟨last, hlast, -⟩ := State.nextToClaim_spec h
  have hne : s.claims.list ≠ [] := fun h0 => by rw [h0] at hlast; cases hlast
  have hlen : 12 ≤ (s.addClaim (s.newClaim i e .tentative 0 none)).claims.list.length + 11 := by
    show 12 ≤ (s.claims.list ++ [_]).length + 11
    rw [List.length_append]
    have := List.length_pos_iff.mpr hne
    exact Nat.le_trans (by decide : 12 ≤ 1 + 11) (Nat.add_le_add_right (Nat.le_add_left 1 _) 11)
  rw [hturn]
  exact (claimAheadLoop_ends 11 hlen).1.symm

/-- Settles O22. -/
theorem claimAheadConditions : Obligations.ClaimAheadConditions :=
  ⟨fun _ _ _ => State.nextToClaim_iff, fun s => ⟨State.claimAhead_of_none, fun _ _ h =>
    (State.claimAhead_of_some h).trans rfl, s.claimAhead_nextToClaim⟩⟩

/-! ### Promotion (R48, R49) -/

theorem State.promotable_iff {s : State} {d : Nat} {prev : Option Claim} {c : Claim} :
    s.promotable d prev c = true ↔ c.state = .tentative ∧ c.announce = 2
      ∧ (∃ t, c.firstAnnounce = some t ∧ t + s.config.params.yieldWindow ≤ s.now)
      ∧ (∃ p, prev = some p ∧ p.state ≠ .tentative)
      ∧ s.peers.blocked c.cell = false ∧ s.outranked d c = false := by
  have hw : s.windowElapsed c = true ↔ ∃ t, c.firstAnnounce = some t ∧ t + s.config.params.yieldWindow ≤ s.now := by
    unfold State.windowElapsed
    cases c.firstAnnounce <;> simp
  unfold State.promotable
  cases prev with
  | none => simp
  | some p => simp [hw, and_assoc]

theorem State.promoted_ne {s : State} {c : Claim} (h : c.state = .tentative) : s.promoted c ≠ c := by
  intro he
  have := congrArg Claim.state he
  rw [h] at this
  cases this

/-- The claim before place `k` of a list, `prev` the claim before its first. -/
def claimBefore (prev : Option Claim) (cs : List Claim) : Nat → Option Claim
  | 0 => prev
  | k + 1 => cs[k]?

/-- What a sweep makes of each claim: it promotes it exactly when it may be, the claim before it and the
deferral count taken as the sweep has left them. -/
theorem State.sweep_getElem (s : State) (prev : Option Claim) (d : Nat) (cs : List Claim) {k : Nat} {c c' : Claim}
    (hc : cs[k]? = some c) (hc' : (s.sweep prev d cs).1[k]? = some c') :
    c' = if s.promotable (if (s.sweep prev d cs).1.take k = cs.take k then d else 0)
      (claimBefore prev (s.sweep prev d cs).1 k) c then s.promoted c else c := by
  induction cs generalizing prev d k with
  | nil => cases hc
  | cons x xs ih =>
    cases k with
    | zero =>
      rw [List.take_zero, List.take_zero, if_pos rfl]
      cases hc
      show c' = if s.promotable d prev c then _ else _
      by_cases hp : s.promotable d prev c = true
      · rw [if_pos hp]
        rw [State.sweep, if_pos hp] at hc'
        exact (Option.some.inj hc').symm
      · rw [if_neg hp]
        rw [State.sweep, if_neg hp] at hc'
        exact (Option.some.inj hc').symm
    | succ k =>
      have before (x' : Claim) (l : List Claim) : claimBefore prev (x' :: l) (k + 1) = claimBefore (some x') l k := by
        cases k <;> rfl
      by_cases hp : s.promotable d prev x = true
      · rw [State.sweep, if_pos hp] at hc' ⊢
        dsimp only at hc' ⊢
        rw [before, List.take_succ_cons, List.take_succ_cons,
          if_neg fun he => s.promoted_ne (State.promotable_iff.mp hp).1 (List.cons.inj he).1]
        have := ih (some (s.promoted x)) 0 hc hc'
        rwa [ite_self] at this
      · rw [State.sweep, if_neg hp] at hc' ⊢
        dsimp only at hc' ⊢
        rw [before, List.take_succ_cons, List.take_succ_cons]
        have := ih (some x) d hc hc'
        rw [this]
        simp only [List.cons.injEq, true_and]

/-- A sweep returns the deferral count to 0, and says that it has promoted, exactly where it changes a claim. -/
theorem State.sweep_changed (s : State) (prev : Option Claim) (d : Nat) (cs : List Claim) :
    (s.sweep prev d cs).2.1 = (if (s.sweep prev d cs).1 = cs then d else 0)
      ∧ ((s.sweep prev d cs).2.2 = true ↔ (s.sweep prev d cs).1 ≠ cs) := by
  induction cs generalizing prev d with
  | nil => exact ⟨rfl, iff_of_false nofun fun h => h rfl⟩
  | cons x xs ih =>
    by_cases hp : s.promotable d prev x = true
    · have hne : (s.promoted x :: (s.sweep (some (s.promoted x)) 0 xs).1) ≠ x :: xs :=
        fun he => s.promoted_ne (State.promotable_iff.mp hp).1 (List.cons.inj he).1
      rw [State.sweep, if_pos hp]
      dsimp only
      refine ⟨?_, iff_of_true rfl hne⟩
      rw [if_neg hne, (ih _ _).1, ite_self]
    · rw [State.sweep, if_neg hp]
      dsimp only
      simp only [List.cons.injEq, true_and, ne_eq]
      exact ih _ _

/-- Settles O23. -/
theorem promotionConditions : Obligations.PromotionConditions := by
  unfold Obligations.PromotionConditions
  intro s
  obtain ⟨hdef, hprom⟩ := s.sweep_changed none s.claims.deferral s.claims.list
  have hprom : s.promoteAll.2 = true ↔ s.promoteAll.1.claims.list ≠ s.claims.list := hprom
  refine ⟨(s.sweep_sameEntry none s.claims.deferral s.claims.list).length_eq.symm, fun k c c' hc hc' => ?_, hdef, hprom,
    rfl, ?_⟩
  · intro d meets
    have hiff : s.promotable d (claimBefore none s.promoteAll.1.claims.list k) c = true ↔ meets := by
      rw [State.promotable_iff]
      have hbefore : (∃ p, claimBefore none s.promoteAll.1.claims.list k = some p ∧ p.state ≠ .tentative)
          ↔ ∃ j p, k = j + 1 ∧ s.promoteAll.1.claims.list[j]? = some p ∧ p.state ≠ .tentative := by
        cases k with
        | zero => exact iff_of_false (fun ⟨p, h, _⟩ => nomatch h) fun ⟨j, p, h, _⟩ => nomatch h
        | succ k =>
          constructor
          · rintro ⟨p, h⟩
            exact ⟨k, p, rfl, h⟩
          · rintro ⟨j, p, h, hp⟩
            cases h
            exact ⟨p, hp⟩
      rw [hbefore]
    have hresult := s.sweep_getElem none s.claims.deferral s.claims.list hc hc'
    refine ⟨fun hm => ?_, fun hm => ?_⟩
    · rw [hresult]
      exact if_pos (hiff.mpr hm)
    · rw [hresult]
      exact if_neg fun hp => hm (hiff.mp hp)
  · unfold State.evaluatePromotion
    dsimp only
    by_cases he : s.promoteAll.1.claims.list = s.claims.list
    · rw [if_neg fun hp => hprom.mp hp he, if_pos he]
      have hd : (s.sweep none s.claims.deferral s.claims.list).2.1 = s.claims.deferral := hdef.trans (if_pos he)
      have hl : (s.sweep none s.claims.deferral s.claims.list).1 = s.claims.list := he
      unfold State.promoteAll
      dsimp only
      rw [hd, hl]
      rfl
    · rw [if_pos (hprom.mpr he), if_neg he]

end Sys2Proof.Machine

/-!
PROOF. The yield-window and entry-hold timers, and the confirmation of a beacon (R46 to R50, R131, R132).
-/

namespace Sys2Proof.Machine

/-! ### One claim of the list -/

section
variable {r : RouteStore} {before after : List Claim} {c : Claim}

/-- No other claim of the list stands on the entry of one. -/
theorem RouteStore.carries.index_ne (h : r.carries (before ++ c :: after)) :
    (∀ x ∈ before, x.index ≠ c.index) ∧ ∀ x ∈ after, x.index ≠ c.index := by
  have hc : c.index = r.first + before.length :=
    (h before.length c (by rw [List.getElem?_append_right (Nat.le_refl _), Nat.sub_self]; rfl)).1
  constructor
  · intro x hx
    obtain ⟨k, hk⟩ := List.mem_iff_getElem?.mp hx
    have hlt := (List.getElem?_eq_some_iff.mp hk).1
    have hi := (h k x ((List.getElem?_append_left hlt).trans hk)).1
    omega
  · intro x hx
    obtain ⟨k, hk⟩ := List.mem_iff_getElem?.mp hx
    have hi := (h (before.length + (k + 1)) x (by
      rw [List.getElem?_append_right (Nat.le_add_right _ _), Nat.add_sub_cancel_left]
      exact hk)).1
    omega

section
variable (hb : ∀ x ∈ before, x.index ≠ c.index)
include hb

theorem map_at_claim (ha : ∀ x ∈ after, x.index ≠ c.index) (f : Claim → Claim) :
    (before ++ c :: after).map (fun x => if x.index = c.index then f x else x) = before ++ f c :: after := by
  have same (cs : List Claim) (h : ∀ x ∈ cs, x.index ≠ c.index) :
      cs.map (fun x => if x.index = c.index then f x else x) = cs :=
    (List.map_congr_left fun x hx => if_neg (h x hx)).trans (List.map_id _)
  rw [List.map_append, List.map_cons, if_pos rfl, same _ hb, same _ ha]

theorem find_claim : (before ++ c :: after).find? (fun x => x.index == c.index) = some c := by
  rw [List.find?_append, List.find?_eq_none.mpr fun x hx => by rw [beq_iff_eq]; exact hb x hx,
    List.find?_cons_of_pos (by exact beq_self_eq_true _)]
  rfl

theorem takeWhile_claim : (before ++ c :: after).takeWhile (fun x => x.index != c.index) = before := by
  rw [List.takeWhile_append_of_pos fun x hx => bne_iff_ne.mpr (hb x hx), List.takeWhile_cons_of_neg (by simp),
    List.append_nil]

theorem dropWhile_claim : (before ++ c :: after).dropWhile (fun x => x.index != c.index) = c :: after := by
  rw [List.dropWhile_append_of_pos fun x hx => bne_iff_ne.mpr (hb x hx), List.dropWhile_cons_of_neg (by simp)]

end

end

/-! ### The yield-window timer (R47, R49) -/

/-- A sweep reads nothing of the claim list but the claims that it is given. -/
theorem State.sweep_setList (s : State) (list : List Claim) (prev : Option Claim) (d : Nat) (cs : List Claim) :
    (s.setList list).sweep prev d cs = s.sweep prev d cs := by
  induction cs generalizing prev d with
  | nil => rfl
  | cons c cs ih =>
    have hprom : (s.setList list).promotable d prev c = s.promotable d prev c := rfl
    have hheld : (s.setList list).promoted c = s.promoted c := rfl
    simp only [State.sweep, hprom, hheld, ih]

/-- Behind a TENTATIVE claim no claim is promoted (R48). -/
theorem State.sweep_behind_tentative (s : State) {p : Claim} (d : Nat) {cs : List Claim} (hp : p.state = .tentative)
    (h : ∀ c ∈ cs, c.state = .tentative) : s.sweep (some p) d cs = (cs, d, false) := by
  induction cs generalizing p with
  | nil => rfl
  | cons c cs ih =>
    have hno : ¬ s.promotable d (some p) c = true := fun hprom => by
      obtain ⟨-, -, -, ⟨p', hp', hne⟩, -⟩ := State.promotable_iff.mp hprom
      cases hp'
      exact hne hp
    rw [State.sweep, if_neg hno, ih (h c List.mem_cons_self) fun x hx => h x (List.mem_cons_of_mem _ hx)]

/-- In an ordered list the claims behind a TENTATIVE one are TENTATIVE (R38). -/
theorem claimsSorted.tentative_after {before after : List Claim} {c : Claim} (h : claimsSorted (before ++ c :: after))
    (hc : c.state = .tentative) : ∀ x ∈ after, x.state = .tentative := by
  intro x hx
  have hle := (List.pairwise_cons.mp (List.pairwise_append.mp h).2.1).1 x hx
  rw [hc] at hle
  cases hs : x.state with
  | tentative => rfl
  | held => rw [hs] at hle; exact absurd hle (by decide)
  | occupied => rw [hs] at hle; exact absurd hle (by decide)

section
variable {s : State} {before after : List Claim} {c : Claim}
variable (hl : s.claims.list = before ++ c :: after) (hk : s.route.claimed (before ++ c :: after))
include hl hk

/-- The list with the claim's yield-window timer stopped. -/
theorem State.yieldStopped_list : (s.claims.list.map fun x => if x.index = c.index then { x with yieldTimer := none } else x)
    = before ++ { c with yieldTimer := none } :: after := by
  rw [hl]
  exact map_at_claim hk.2.1.index_ne.1 hk.2.1.index_ne.2 fun x => { x with yieldTimer := none }

omit hl in
/-- Promotion from the claim whose window has elapsed on, its timer stopped (R49). -/
theorem State.promoteFrom_stopped :
    State.promoteFrom (s.setList (before ++ { c with yieldTimer := none } :: after)) c.index
      = if c.state = .tentative then
          ((s.setClaims { s.claims with
              list := before ++ (s.sweep before.getLast? s.claims.deferral ({ c with yieldTimer := none } :: after)).1
              deferral := (s.sweep before.getLast? s.claims.deferral ({ c with yieldTimer := none } :: after)).2.1 }),
            (s.sweep before.getLast? s.claims.deferral ({ c with yieldTimer := none } :: after)).2.2)
        else (s.setList (before ++ { c with yieldTimer := none } :: after), false) := by
  have hb := hk.2.1.index_ne.1
  have htake := takeWhile_claim (after := after) (c := { c with yieldTimer := none }) hb
  have hdrop := dropWhile_claim (after := after) (c := { c with yieldTimer := none }) hb
  unfold State.promoteFrom
  dsimp only [State.setList, State.setClaims_claims] at htake hdrop ⊢
  rw [htake, hdrop]
  dsimp only
  rw [show s.setClaims { s.claims with list := before ++ { c with yieldTimer := none } :: after }
    = s.setList (before ++ { c with yieldTimer := none } :: after) from rfl, State.sweep_setList]
  rfl

/-- A window that elapses without a promotion only stops the timer. -/
theorem State.yieldExpired_stays (hp : s.promotable s.claims.deferral before.getLast? c = false) :
    s.yieldExpired c.index = s.setList (before ++ { c with yieldTimer := none } :: after) := by
  unfold State.yieldExpired
  rw [State.yieldStopped_list hl hk]
  dsimp only
  rw [State.promoteFrom_stopped hk]
  by_cases hs : c.state = .tentative
  · have hno : ¬ s.promotable s.claims.deferral before.getLast? { c with yieldTimer := none } = true :=
      fun h => absurd (hp.symm.trans h) nofun
    rw [if_pos hs, State.sweep, if_neg hno,
      s.sweep_behind_tentative s.claims.deferral (p := { c with yieldTimer := none }) hs (hk.2.2.tentative_after hs)]
    rfl
  · rw [if_neg hs]
    rfl

/-- One that promotes makes the claim HELD, evaluates the claims behind it and claims ahead. -/
theorem State.yieldExpired_promotes (hp : s.promotable s.claims.deferral before.getLast? c = true) :
    s.yieldExpired c.index = (s.setClaims { s.claims with
      list := before ++ s.promoted { c with yieldTimer := none }
        :: (s.sweep (some (s.promoted { c with yieldTimer := none })) 0 after).1
      deferral := 0 }).claimAhead := by
  have hyes : s.promotable s.claims.deferral before.getLast? { c with yieldTimer := none } = true := hp
  have hzero : (s.sweep (some (s.promoted { c with yieldTimer := none })) 0 after).2.1 = 0 := by
    rw [(s.sweep_changed _ 0 after).1, ite_self]
  unfold State.yieldExpired
  rw [State.yieldStopped_list hl hk]
  dsimp only
  rw [State.promoteFrom_stopped hk]
  rw [if_pos (State.promotable_iff.mp hp).1, State.sweep, if_pos hyes]
  dsimp only
  rw [if_pos rfl, hzero]

end

/-- A recomputation keeps every claim that is not TENTATIVE, and the counts of the claim engine. -/
theorem State.recomputedInto_keeps {p t : State} (h : p.recomputedInto t) :
    (∀ c ∈ p.claims.list, c.state ≠ .tentative → c ∈ t.claims.list) ∧ t.claims.deferral = p.claims.deferral
      ∧ t.claims.backoff = p.claims.backoff := by
  obtain hc | ⟨hc, -⟩ := State.recomputedInto_claims h
  · rw [hc]
    exact ⟨fun _ hx _ => hx, rfl, rfl⟩
  · rw [hc]
    exact ⟨fun _ hx hs => List.mem_filter.mpr ⟨hx, bne_iff_ne.mpr hs⟩, rfl, rfl⟩

/-- Settles O59. -/
theorem claimTimersExpire : Obligations.ClaimTimersExpire := by
  unfold Obligations.ClaimTimersExpire
  intro s before after c hh hc hok hl same
  have hk : s.route.claimed (before ++ c :: after) := hl ▸ (State.claimsOk_iff.mp hok).1
  have hat : s.claimAt c.index = some c := by
    rw [State.claimAt, hl]
    exact find_claim hk.2.1.index_ne.1
  refine ⟨fun due hy hd => ?_, fun due hy hd => ?_⟩
  · have hexec : exec (.yieldWindowExpiry c.index) s = .next (s.event fun w => w.on (·.yieldExpired c.index)) :=
      congrArg Host.Outcome.next (State.ifDue_of_due _ hh (by
        rw [State.yieldDue, hat]
        dsimp only
        rw [hy]
        exact decide_eq_true hd))
    refine ⟨fun hp => hexec.trans (congrArg Host.Outcome.next (State.event_plain
      (congrArg Work.begin (State.yieldExpired_stays hl hk hp)) ?_ hc)), fun hp => ?_⟩
    · show List.map _ (before ++ _ :: after) = List.map _ s.claims.list
      rw [hl, List.map_append, List.map_append]
      rfl
    · intro held promoted
      have hclose := s.event_closes fun w => w.on (·.yieldExpired c.index)
      rw [show (Work.begin s).on (·.yieldExpired c.index) = Work.begin promoted.claimAhead from
        congrArg Work.begin (State.yieldExpired_promotes hl hk hp)] at hclose
      have hsettled := State.claimsSettled_of_closes (s := s) (promoted.claimAhead_auth.trans rfl) hclose
      obtain ⟨new, hnew, -⟩ := promoted.claimAhead_spec
      have hlist : promoted.claimAhead.claims.list = before ++ held :: ((s.sweep (some held) 0 after).1 ++ new) := by
        rw [hnew]
        show (before ++ held :: (s.sweep (some held) 0 after).1) ++ new = _
        rw [List.append_assoc]
        rfl
      have hview : promoted.claimAhead.claimView ≠ s.claimView := by
        intro he
        have hat := congrArg (fun v => v[before.length]?) he
        dsimp only [State.claimView] at hat
        rw [hlist, hl, List.getElem?_map, List.getElem?_map, List.getElem?_append_right (Nat.le_refl _),
          List.getElem?_append_right (Nat.le_refl _), Nat.sub_self] at hat
        have hstate := congrArg (fun v : Nat × ClaimState × Bool => v.2.1) (Option.some.inj hat)
        exact absurd (hstate.trans (State.promotable_iff.mp hp).1) nofun
      have hinto := hsettled.1 hview
      obtain ⟨hkeep, hdef, -⟩ := State.recomputedInto_keeps hinto
      refine ⟨_, hexec, hinto, hkeep held (by rw [hlist]; exact List.mem_append_right _ List.mem_cons_self) nofun,
        hdef.trans ?_, ?_⟩
      · rw [hnew]
        rfl
      · obtain ⟨h1, h2, h3, h4, h5, h6⟩ := State.body_eq_iff.mp ((Work.settle_closes_body hclose).trans promoted.claimAhead_body)
        refine ⟨h1, h2, h3, h4, h5, (Work.settle_closes_counters hclose).trans ?_, h6⟩
        show promoted.claimAhead.link.counters = _
        rw [State.claimAhead_link]
  · intro stopped
    have hexec : exec (.entryHoldExpiry c.index) s = .next (s.event fun w => (w.on (·.holdExpired c.index)).owe) :=
      congrArg Host.Outcome.next (State.ifDue_of_due _ hh (by
        rw [State.holdDue, hat]
        dsimp only
        rw [hy]
        exact decide_eq_true hd))
    have hstopped : s.holdExpired c.index = stopped := by
      unfold State.holdExpired
      rw [hl]
      exact congrArg s.setList (map_at_claim hk.2.1.index_ne.1 hk.2.1.index_ne.2 fun x => { x with holdTimer := none })
    have hclose := s.event_closes fun w => (w.on (·.holdExpired c.index)).owe
    rw [show ((Work.begin s).on (·.holdExpired c.index)).owe = (Work.begin stopped).owe from
      congrArg (fun u => (Work.begin u).owe) hstopped] at hclose
    obtain ⟨h1, h2, h3, h4, h5, h6⟩ := State.body_eq_iff.mp (Work.settle_closes_body hclose)
    have hinto : stopped.recomputedInto _ := Work.recomputedInto_of_closes (w := (Work.begin stopped).owe) rfl
      (Work.settle_of_recompute (w := (Work.begin stopped).owe) rfl ▸ hclose)
    obtain ⟨-, hdef, hback⟩ := State.recomputedInto_keeps hinto
    exact ⟨_, hexec, hinto, Work.settle_closes_reserved hclose, hdef, hback, h1, h2, h3, h4, h5,
      Work.settle_closes_counters hclose, h6⟩

end Sys2Proof.Machine

/-!
PROOF. The confirmation of the beacon in flight (R15, R46, R131, R132).
-/

namespace Sys2Proof.Machine

/-! ### TX_DONE that settles nothing -/

theorem State.exec_txDone {s : State} (hh : s.held = false) (hm : s.ctl.mode ≠ .init) (hr : s.beacon.rx = [])
    {body : List Byte} (hb : body.length ≤ 250) : exec (.txDone body) s = .next (s.event fun w => w.txDone body) :=
  congrArg Host.Outcome.next ((State.ifDue_of_due _ hh rfl).trans ((State.airBytes_frame hm hr hb).trans rfl))

theorem Work.txDone_of_other {w : Work} {body : List Byte} (h : w.s.beacon.inFlight = none ∨ body.length ≠ 2
    ∨ (∀ b, w.s.beacon.inFlight = some b → body.head? ≠ some b.seq)
    ∨ (body.getLast? ≠ some 0x00#8 ∧ body.getLast? ≠ some 0x01#8)) : w.txDone body = w := by
  unfold Work.txDone
  split
  next tag status b hb =>
    split
    · rfl
    next htag =>
      have htag := Classical.not_not.mp htag
      obtain h | h | h | ⟨h0, h1⟩ := h
      · cases hb.symm.trans h
      · exact absurd rfl h
      · exact absurd (congrArg some htag) (h b hb)
      · rw [if_neg fun he : status = 0x00#8 => h0 (congrArg some he),
          if_neg fun he : status = 0x01#8 => h1 (congrArg some he)]
  · rfl

/-! ### The confirmation -/

/-- The state as the confirmation is counted, before its claims are announced (R132). -/
def State.confirmCounted (s : State) : State :=
  let u := (s.count .beaconsSent).setBeacon { s.beacon with failures := 0 }
  u.setCtl (u.ctl.satisfy .airFault)

/-- The announced claims, promoted, and the truncation completed, before claiming ahead (R63). -/
def State.confirmedClaims (u : State) (b : InFlight) : State :=
  ((u.announce b.identities).promoteAll.1).completeTruncation b

theorem State.beaconConfirmed_eq (s : State) (b : InFlight) :
    s.beaconConfirmed b = (s.confirmCounted.confirmedClaims b).claimAhead.clearInFlight := rfl

theorem State.completeTruncation_eq (s : State) (b : InFlight) : s.completeTruncation b = s.setRoute { s.route with
    state := if b.completing = true ∧ s.route.state = .truncating then .active else s.route.state } := by
  unfold State.completeTruncation
  split <;> rfl

theorem State.confirmedClaims_eq (u : State) (b : InFlight) : u.confirmedClaims b
    = (u.setClaims (u.announce b.identities).promoteAll.1.claims).setRoute { u.route with
      state := if b.completing = true ∧ u.route.state = .truncating then .active else u.route.state } :=
  State.completeTruncation_eq _ b

theorem State.Alike.confirmedClaims {u v : State} (h : u.Alike v) (b : InFlight) :
    (u.confirmedClaims b).Alike (v.confirmedClaims b) :=
  (h.announce b.identities).promoteAll.1.completeTruncation b

theorem Claim.announced_fields (now y : Nat) (c : Claim) :
    (c.announced now y).announce = (if c.announce = 0 then 1 else min 2 (c.announce + 1))
      ∧ (c.announced now y).firstAnnounce = (if c.announce = 0 then some now else c.firstAnnounce)
      ∧ (c.announced now y).yieldTimer = if c.announce = 0 then some (now + y) else c.yieldTimer := by
  unfold Claim.announced
  split <;> exact ⟨rfl, rfl, rfl⟩

/-- What becomes of one claim at a confirmation: announced when the beacon has listed it, and perhaps HELD. -/
theorem State.confirmedClaims_mem {u : State} {b : InFlight} {c : Claim} (hc : c ∈ u.claims.list) :
    ∃ c' ∈ (u.confirmedClaims b).claims.list, c'.identity = c.identity ∧ (c.state ≠ .tentative → c'.state ≠ .tentative)
      ∧ c'.announce = (if b.identities.contains c.identity then
          if c.announce = 0 then 1 else min 2 (c.announce + 1) else c.announce)
      ∧ c'.firstAnnounce = (if b.identities.contains c.identity = true ∧ c.announce = 0 then some u.now
          else c.firstAnnounce)
      ∧ c'.yieldTimer = (if b.identities.contains c.identity = true ∧ c.announce = 0 then
          some (u.now + u.config.params.yieldWindow) else c.yieldTimer) := by
  obtain ⟨k, hk⟩ := List.mem_iff_getElem?.mp hc
  obtain ⟨hlen, hpart, -⟩ := State.sweep_spec (u.announce b.identities) (u.announce b.identities).claims.list none
    (u.announce b.identities).claims.deferral
  generalize ha : (if b.identities.contains c.identity then c.announced u.now u.config.params.yieldWindow else c) = a
  have hka : (u.announce b.identities).claims.list[k]? = some a := by
    show (u.claims.list.map _)[k]? = _
    rw [List.getElem?_map, hk, Option.map_some, ha]
  have hklt := (List.getElem?_eq_some_iff.mp hka).1
  have hget := List.getElem?_eq_getElem (Nat.lt_of_lt_of_eq hklt hlen.symm)
  obtain ⟨hid, hst⟩ : a.identity = c.identity ∧ a.state = c.state := by
    rw [← ha]
    unfold Claim.announced
    split
    · split <;> exact ⟨rfl, rfl⟩
    · exact ⟨rfl, rfl⟩
  have hfields : a.announce = (if b.identities.contains c.identity then
          if c.announce = 0 then 1 else min 2 (c.announce + 1) else c.announce)
      ∧ a.firstAnnounce = (if b.identities.contains c.identity = true ∧ c.announce = 0 then some u.now
          else c.firstAnnounce)
      ∧ a.yieldTimer = (if b.identities.contains c.identity = true ∧ c.announce = 0 then
          some (u.now + u.config.params.yieldWindow) else c.yieldTimer) := by
    rw [← ha]
    by_cases hin : b.identities.contains c.identity = true
    · simp only [hin, if_true, true_and]
      exact Claim.announced_fields _ _ c
    · have hboth : ¬ (b.identities.contains c.identity = true ∧ c.announce = 0) := fun h => hin h.1
      rw [if_neg hin, if_neg hin, if_neg hboth, if_neg hboth]
      exact ⟨rfl, rfl, rfl⟩
  rw [State.confirmedClaims_eq]
  refine ⟨_, List.mem_of_getElem? hget, ?_⟩
  obtain h | ⟨hten, h⟩ := hpart k a _ hka hget
  · rw [h]
    exact ⟨hid, fun hs => hst ▸ hs, hfields⟩
  · rw [h]
    exact ⟨hid, fun _ => nofun, hfields⟩

/-! ### What a recomputation leaves of the Mode Controller -/

theorem Work.raiseOverrun_ctl (w : Work) : ∃ m l k f, w.raiseOverrun.s.ctl
    = { w.s.ctl with mode := m, line := l, causes := k, first := f } := by
  obtain ⟨m, l, h, -⟩ := Work.raise_ctl (w := w.on fun s => s.setAuth { s.auth with overrun := true })
    (c := .overrun) nofun
  have hctl : w.raiseOverrun.s.ctl = _ := h
  rw [hctl, State.recordCause_ctl]
  split
  · exact ⟨m, l, w.s.ctl.causes, w.s.ctl.first, rfl⟩
  · exact ⟨_, _, _, _, rfl⟩

/-- A recomputation sets and clears no mark. -/
theorem Work.recomputeNow_ctl (w : Work) : ∃ m l k f, w.recomputeNow.s.ctl
    = { w.s.ctl with mode := m, line := l, causes := k, first := f } := by
  cases ho : w.overrunEntry with
  | true =>
    rw [Work.recomputeNow_entry ho]
    exact w.raiseOverrun_ctl
  | false =>
    by_cases hf : w.s.ctl.mode = .serving → w.s.fits
    · rw [Work.recomputeNow_of_fits ho hf]
      exact ⟨_, _, _, _, rfl⟩
    · obtain ⟨hm, hf⟩ := Classical.not_imp.mp hf
      rw [(Work.recomputeNow_of_overrun ho hm hf).1]
      exact w.compute.raiseOverrun_ctl

theorem Work.settle_ctl (w : Work) (before : State) : ∃ m l k f, (w.settle before).s.ctl
    = { w.s.ctl with mode := m, line := l, causes := k, first := f } := by
  unfold Work.settle
  split
  · exact w.recomputeNow_ctl
  · exact ⟨_, _, _, _, rfl⟩

/-- Settles O51. -/
theorem txDoneSettlesBeacon : Obligations.TxDoneSettlesBeacon := by
  unfold Obligations.TxDoneSettlesBeacon
  intro s hh hm hr hc
  refine ⟨fun body hb hother => (State.exec_txDone hh hm hr hb).trans (congrArg Host.Outcome.next
    (State.event_plain (Work.txDone_of_other hother) rfl hc)), fun b hb => ?_⟩
  let p := (s.confirmCounted.confirmedClaims b).claimAhead
  have hwork : (Work.begin s).txDone [b.seq, 0x00#8] = Work.begin p.clearInFlight :=
    Work.txDone_of_flight (w := Work.begin s) hb (if_neg (Classical.not_not.mpr rfl))
  have hclose := s.event_closes fun w => w.txDone [b.seq, 0x00#8]
  rw [hwork] at hclose
  have hauth : p.clearInFlight.auth = s.auth := by
    refine (State.claimAhead_auth _).trans ?_
    rw [State.confirmedClaims_eq]
    rfl
  have hsettled := State.claimsSettled_of_closes hauth hclose
  have hctl : p.ctl = s.confirmCounted.ctl := by
    refine (State.claimAhead_ctl _).trans ?_
    rw [State.confirmedClaims_eq]
    rfl
  have hbody : p.body = (s.confirmCounted.confirmedClaims b).body := State.claimAhead_body _
  obtain ⟨hroute, hpos, hpeers, hbeacon, hconfig, hsame⟩ := State.body_eq_iff.mp hbody
  obtain ⟨htroute, htpos, htpeers, htbeacon, htconfig, htsame⟩ := State.body_eq_iff.mp (Work.settle_closes_body hclose)
  rw [State.confirmedClaims_eq] at hroute hpos hpeers hbeacon hconfig hsame
  refine ⟨_, State.exec_txDone hh hm hr (body := [b.seq, 0x00#8]) (Nat.le_add_left 2 248), ?_, htroute.trans hroute, ?_,
    fun ha => ?_, ?_, fun c hcin hcs => ?_, htpos.trans hpos, htpeers.trans hpeers, htconfig.trans hconfig,
    State.outside_eq_iff.mp ((State.outside_eq_iff.mpr htsame).trans (State.outside_eq_iff.mpr hsame))⟩
  · rw [htbeacon]
    show { p.beacon with inFlight := none } = _
    rw [hbeacon]
    rfl
  · refine (Work.settle_closes_counters hclose).trans ?_
    show p.link.counters = _
    rw [State.claimAhead_link, State.confirmedClaims_eq]
    rfl
  · obtain ⟨m, l, k, f, h⟩ := (Work.begin p.clearInFlight).settle_ctl s
    rw [hclose.ctl, h]
    show p.ctl.markAirFault = true
    rw [hctl]
    show (s.ctl.markAirFault || s.ctl.causes.airFault) = true
    rw [ha, Bool.or_true]
  · have halike : s.confirmCounted.Alike (s.setCtl (s.ctl.satisfy .airFault)) := ⟨rfl, rfl, rfl, rfl, rfl, rfl, rfl, rfl⟩
    refine State.Alike.claimsSettledInto (p := p.clearInFlight)
      (p' := ((s.setCtl (s.ctl.satisfy .airFault)).confirmedClaims b).claimAhead) rfl rfl ?_ ?_ hsettled
    · exact (State.Alike.setBeacon p _).symm.trans (halike.confirmedClaims b).claimAhead
    · rw [State.claimAhead_ctl, State.confirmedClaims_eq]
      exact hctl.symm
  · obtain ⟨c', hc', hid, hst, hfields⟩ := State.confirmedClaims_mem (u := s.confirmCounted) (b := b) hcin
    obtain ⟨new, hnew, -⟩ := (s.confirmCounted.confirmedClaims b).claimAhead_spec
    have hmem : c' ∈ p.claims.list := by
      show c' ∈ (s.confirmCounted.confirmedClaims b).claimAhead.claims.list
      rw [hnew]
      exact List.mem_append_left _ hc'
    refine ⟨c', ?_, hid, hfields⟩
    obtain h | ⟨h, hserving, hstopped⟩ := State.claimsSettledInto_claims hsettled
    · rw [h]
      exact hmem
    · rw [h]
      refine List.mem_filter.mpr ⟨hmem, bne_iff_ne.mpr (hst (hcs.resolve_right fun he => ?_))⟩
      have hmode : p.ctl.mode = s.ctl.mode := by rw [hctl]; rfl
      exact absurd ((hstopped.symm.trans he).trans (hmode.symm.trans hserving)) nofun

end Sys2Proof.Machine

/-!
PROOF. The beacon timer (R125 to R129).
-/

namespace Sys2Proof.Machine

theorem jitterStep_eq (r : Half) : jitterStep r = (r >>> 1) ||| (if (r.getLsbD 0).xor ((r.getLsbD 2).xor
    ((r.getLsbD 3).xor (r.getLsbD 5))) then 0x8000#16 else 0#16) := by
  unfold jitterStep
  rw [Bool.xor_assoc, Bool.xor_assoc]

theorem State.beaconDue_of_free {s : State} (h : s.beacon.inFlight = none) : s.beaconDue = s.buildBeacon := by
  unfold State.beaconDue
  rw [h]

theorem State.beaconDue_of_busy {s : State} (h : s.beacon.inFlight ≠ none) :
    s.beaconDue = s.count .beaconPeriodsSkipped := by
  unfold State.beaconDue
  cases hb : s.beacon.inFlight with
  | none => exact absurd hb h
  | some b => rfl

theorem State.beaconTurn_of_due {s : State} (h : s.ctl.mode = .listen ∨ s.ctl.mode = .serving ∨ s.ctl.mode = .stopped) :
    s.beaconTurn = s.beaconDue := by
  unfold State.beaconTurn
  obtain h | h | h := h <;> rw [h]

theorem State.beaconTurn_of_parked {s : State} (h : s.ctl.mode = .parked) : s.beaconTurn =
    if s.beacon.parkedCount < 2 then s.setBeacon { s.beacon with parkedCount := s.beacon.parkedCount + 1 }
    else (s.setBeacon { s.beacon with parkedCount := 0 }).beaconDue := by
  unfold State.beaconTurn
  rw [h]

/-- The state whose generator is stepped and whose timer is re-armed, its parked count as given. -/
def State.beaconArmed (s : State) (count : Nat) : State :=
  s.setBeacon { s.rearmBeacon.beacon with parkedCount := count }

/-- Settles O50. -/
theorem beaconTimerBuildsOrSkips : Obligations.BeaconTimerBuildsOrSkips := by
  unfold Obligations.BeaconTimerBuildsOrSkips
  intro s due hh ht hd fed j armed built skipped
  have hexec : exec .beaconTimerExpiry s = .next s.rearmBeacon.beaconTurn :=
    congrArg Host.Outcome.next (State.ifDue_of_due _ hh (by rw [ht]; exact decide_eq_true hd))
  have harmed (count : Nat) : (s.beaconArmed count).beacon = armed count := by
    show ({ s.beacon with
      jitter := jitterStep s.beacon.jitter
      timer := some (s.now + s.config.params.beaconPeriod + jitterDraw (jitterStep s.beacon.jitter) _)
      parkedCount := count } : BeaconUnit) = _
    rw [jitterStep_eq]
    rfl
  have hbuilt (count : Nat) (h : s.beacon.inFlight = none) : (s.beaconArmed count).beaconDue = built count := by
    rw [State.beaconDue_of_free (s := s.beaconArmed count) h, State.buildBeacon, harmed]
    rfl
  have hskipped (count : Nat) (h : s.beacon.inFlight ≠ none) : (s.beaconArmed count).beaconDue = skipped count := by
    rw [State.beaconDue_of_busy (s := s.beaconArmed count) h]
    show State.setLink (s.setBeacon (s.beaconArmed count).beacon) _ = _
    rw [harmed]
    rfl
  refine ⟨fun hm => ?_, fun hm hp => ?_, fun hm hp => ?_⟩
  · have hturn : exec .beaconTimerExpiry s = .next (s.beaconArmed s.beacon.parkedCount).beaconDue :=
      hexec.trans (congrArg Host.Outcome.next (State.beaconTurn_of_due (s := s.rearmBeacon) hm))
    exact ⟨fun h => hturn.trans (congrArg _ (hbuilt _ h)), fun h => hturn.trans (congrArg _ (hskipped _ h))⟩
  · refine hexec.trans (congrArg Host.Outcome.next ((State.beaconTurn_of_parked (s := s.rearmBeacon) hm).trans
      ((if_pos hp).trans ?_)))
    exact congrArg s.setBeacon (harmed (s.beacon.parkedCount + 1))
  · have hturn : exec .beaconTimerExpiry s = .next (s.beaconArmed 0).beaconDue :=
      hexec.trans (congrArg Host.Outcome.next ((State.beaconTurn_of_parked (s := s.rearmBeacon) hm).trans
        (if_neg (Nat.not_lt.mpr hp))))
    exact ⟨fun h => hturn.trans (congrArg _ (hbuilt _ h)), fun h => hturn.trans (congrArg _ (hskipped _ h))⟩

end Sys2Proof.Machine

/-!
PROOF. The authority record computed: the ceiling's conditions, the usable run and its length, the
keep-clear pull-back (R107 to R114).
-/

namespace Sys2Proof.Machine

/-! ### The ceiling (R113) -/

theorem State.ceilingSearch_largest (s : State) (front cap l n : Nat) :
    ∀ k ≤ n, s.ceilingSearch front cap l n < 5 * k → s.ceilingOk front cap l (5 * k) = false := by
  induction n with
  | zero =>
    intro k hk hlt
    rw [Nat.le_zero.mp hk] at hlt
    exact absurd hlt (Nat.not_lt_zero _)
  | succ n ih =>
    intro k hk hlt
    unfold State.ceilingSearch at hlt
    split at hlt
    · omega
    next hno =>
      obtain h | h := Nat.lt_or_eq_of_le hk
      · exact ih k (Nat.lt_succ_iff.mp h) hlt
      · rw [h]
        exact Bool.not_eq_true _ ▸ hno

theorem State.meetsTargets_iff (s : State) (front p v : Nat) (es : List RouteEntry) (at_ : Nat) :
    s.meetsTargets front p v es at_ = true ↔ ∀ k e, es[k]? = some e → front < at_ + lengths (es.take k) →
      at_ + lengths (es.take k) < p → v ≤ s.effectiveCap e
        ∨ s.config.params.braking v (s.effectiveCap e) ≤ at_ + lengths (es.take k) - front := by
  induction es generalizing at_ with
  | nil => exact iff_of_true rfl fun k e h => nomatch h
  | cons x xs ih =>
    have hhead : (if front < at_ ∧ at_ < p then decide (v ≤ s.effectiveCap x)
        || decide (s.config.params.braking v (s.effectiveCap x) ≤ at_ - front) else true) = true
        ↔ (front < at_ → at_ < p → v ≤ s.effectiveCap x ∨ s.config.params.braking v (s.effectiveCap x) ≤ at_ - front) := by
      split
      next h => simp [h.1, h.2]
      next h => exact iff_of_true rfl fun h1 h2 => absurd ⟨h1, h2⟩ h
    have hplace (k : Nat) : at_ + x.length + lengths (xs.take k) = at_ + lengths ((x :: xs).take (k + 1)) := by
      rw [List.take_succ_cons, lengths_cons, Nat.add_assoc]
    rw [State.meetsTargets, Bool.and_eq_true, hhead, ih]
    constructor
    · rintro ⟨h0, hrest⟩ k e hk
      cases k with
      | zero =>
        cases hk
        exact h0
      | succ k =>
        rw [← hplace]
        exact hrest k e hk
    · intro h
      refine ⟨h 0 x rfl, fun k e hk => ?_⟩
      rw [hplace]
      exact h (k + 1) e hk

theorem State.ceilingOk_iff {s : State} {front cap l v : Nat} : s.ceilingOk front cap l v = true ↔
    v ≤ cap ∧ s.config.params.stopping v ≤ l
      ∧ ∀ k e, s.route.entry? k = some e → front < s.route.startOf k → s.route.startOf k < front + l →
        v ≤ s.effectiveCap e
          ∨ s.config.params.braking v (s.effectiveCap e) ≤ s.route.startOf k - front := by
  rw [State.ceilingOk, Bool.and_eq_true, Bool.and_eq_true, decide_eq_true_iff, decide_eq_true_iff, and_assoc,
    State.meetsTargets_iff]
  refine and_congr_right fun _ => and_congr_right fun _ => ⟨fun h k e hk => ?_, fun h k e hk => ?_⟩
  · obtain ⟨j, rfl, hj⟩ := RouteStore.entry?_eq_some.mp hk
    rw [s.route.startOf_first_add, ← Nat.zero_add (lengths _)]
    exact h j e hj
  · rw [Nat.zero_add, ← s.route.startOf_first_add]
    exact h _ e (RouteStore.entry?_eq_some.mpr ⟨k, rfl, hk⟩)

/-! ### The usable run (R108 to R111) -/

theorem State.usable_iff {s : State} {c : Claim} : s.usable c = true ↔ c.state = .occupied
    ∨ (c.state = .held ∧ (∃ t, c.heldSince = some t ∧ t + (s.classOf c.cell).entryHold ≤ s.now)
      ∧ s.peers.blocked c.cell = false) := by
  unfold State.usable
  cases c.state with
  | occupied => simp
  | tentative => simp
  | held => cases c.heldSince <;> simp

/-- The claims of the usable run, from the claim on entry `i` on (R110). -/
def State.usableClaims (s : State) (i : Nat) : List Claim :=
  (s.claims.list.dropWhile fun c => c.index != i).takeWhile fun c => s.usable c

/-- The run that ends with entry `last` (R110). -/
def State.runTo (s : State) (front : Nat) (stop : Option RoutePos) (last : Nat) : Run :=
  match stop with
  | some p => if p.index ≤ last then ⟨(s.route.distance p : Int) - front, true⟩ else ⟨(s.route.endOf last : Int) - front, false⟩
  | none => ⟨(s.route.endOf last : Int) - front, false⟩

theorem State.walk_eq (s : State) (front : Nat) (stop : Option RoutePos) (a : Nat) (cs : List Claim)
    (hi : ∀ (k : Nat) c, cs[k]? = some c → c.index = a + 1 + k) (hp : ∀ p, stop = some p → a < p.index) :
    s.walk front stop a cs = s.runTo front stop (a + (cs.takeWhile fun c => s.usable c).length) := by
  have ends : (⟨(s.route.endOf a : Int) - front, false⟩ : Run) = s.runTo front stop a := by
    unfold State.runTo
    cases stop with
    | none => rfl
    | some p => exact (if_neg (Nat.not_le.mpr (hp p rfl))).symm
  induction cs generalizing a with
  | nil => exact ends
  | cons c cs ih =>
    unfold State.walk
    by_cases hu : s.usable c = true
    · have hc : c.index = a + 1 := hi 0 c rfl
      have hrest (hp' : ∀ p, stop = some p → a + 1 < p.index) : s.walk front stop c.index cs
          = s.runTo front stop (a + ((c :: cs).takeWhile fun c => s.usable c).length) := by
        rw [hc, ih (a + 1) (fun k x hk => by rw [hi (k + 1) x hk]; omega) hp' ?_, List.takeWhile_cons_of_pos hu,
          List.length_cons, Nat.add_right_comm, Nat.add_assoc]
        unfold State.runTo
        cases stop with
        | none => rfl
        | some p => exact (if_neg (Nat.not_le.mpr (hp' p rfl))).symm
      rw [if_pos hu]
      cases stop with
      | none => exact hrest nofun
      | some p =>
        dsimp only
        split
        next he =>
          rw [List.takeWhile_cons_of_pos hu, List.length_cons, State.runTo, if_pos (by omega)]
        next hne =>
          refine hrest fun q hq => ?_
          have := hp q hq
          cases hq
          omega
    · rw [if_neg hu, List.takeWhile_cons_of_neg hu]
      exact ends

theorem State.runFrom_eq (s : State) (front : Nat) (c : Claim) (cs : List Claim)
    (hi : ∀ (k : Nat) x, cs[k]? = some x → x.index = c.index + 1 + k) :
    s.runFrom front c cs = s.runTo front s.route.firstStop (c.index + (cs.takeWhile fun c => s.usable c).length) := by
  unfold State.runFrom
  split
  next p hp =>
    split
    next hle => rw [hp, State.runTo, if_pos (by omega)]
    next hgt =>
      rw [hp]
      exact s.walk_eq front (some p) c.index cs hi fun q hq => by cases hq; omega
  next hp =>
    rw [hp]
    exact s.walk_eq front none c.index cs hi nofun

/-- L0 (R111) from the run whose last claim is `last`, if it has one. -/
def State.unpulled (s : State) (front i : Nat) : Nat :=
  match (s.usableClaims i).getLast?, s.route.firstStop with
  | none, _ => 0
  | some c, none => ((s.route.endOf c.index : Int) - front - s.config.params.margin).toNat
  | some c, some p =>
    if p.index ≤ c.index then ((s.route.distance p : Int) - front).toNat
    else ((s.route.endOf c.index : Int) - front - s.config.params.margin).toNat

theorem State.runTo_length {s : State} {front i : Nat} {c : Claim} (h : (s.usableClaims i).getLast? = some c) :
    (s.runTo front s.route.firstStop c.index).length s.config.params.margin = s.unpulled front i := by
  unfold State.unpulled State.runTo
  rw [h]
  cases s.route.firstStop with
  | none => rfl
  | some p =>
    dsimp only
    split <;> rfl

section
variable {s : State} (hk : s.route.claimed s.claims.list)
include hk

/-- The claims from the one on the entry of place `m` on. -/
theorem RouteStore.claimed.claimsFrom (m : Nat) : claimsFrom (s.route.first + m) s.claims.list = s.claims.list.drop m := by
  have hrear : ∀ c ∈ s.claims.list.take m, (c.index != s.route.first + m) = true := fun c hc => by
    obtain ⟨k, hkk⟩ := List.mem_iff_getElem?.mp hc
    rw [List.getElem?_take] at hkk
    split at hkk
    next hlt =>
      have := (hk.2.1 k c hkk).1
      rw [bne_iff_ne]
      omega
    · cases hkk
  have hfront : (s.claims.list.drop m).dropWhile (fun c => c.index != s.route.first + m) = s.claims.list.drop m := by
    cases hd : s.claims.list.drop m with
    | nil => rfl
    | cons c cs =>
      have hc : s.claims.list[m]? = some c := by
        have := congrArg (·[0]?) hd
        simpa using this
      exact List.dropWhile_cons_of_neg (by rw [(hk.2.1 m c hc).1]; simp)
  calc Machine.claimsFrom (s.route.first + m) s.claims.list
      = (s.claims.list.take m ++ s.claims.list.drop m).dropWhile (fun c => c.index != s.route.first + m) := by
        rw [List.take_append_drop]
        rfl
    _ = s.claims.list.drop m := by rw [List.dropWhile_append_of_pos hrear, hfront]

/-- What the walk finds where R108 finds a run: a length of L0 (R108 to R111). -/
theorem RouteStore.claimed.usableRun {front i own : Nat} {e : RouteEntry} (hc : s.route.cellAt front = some (i, e, own))
    (h : (∃ c ∈ s.claims.list, c.index = i) ∨ own = front) :
    ∃ run, s.usableRun front = some run ∧ run.length s.config.params.margin = s.unpulled front i := by
  obtain ⟨m, rfl, -⟩ := RouteStore.entry?_eq_some.mp (RouteStore.cellAt_eq_some.mp hc).1
  have hrest := hk.claimsFrom m
  have hwait : (⟨0, false⟩ : Run).length s.config.params.margin = 0 := by
    unfold Run.length
    simp
  unfold State.usableRun
  rw [hc]
  dsimp only
  rw [hrest]
  cases hd : s.claims.list.drop m with
  | nil =>
    have hclaims : s.usableClaims (s.route.first + m) = [] := by
      show List.takeWhile _ (Machine.claimsFrom _ _) = []
      rw [hrest, hd]
      rfl
    have hown : own = front := h.resolve_left fun ⟨c, hcin, hci⟩ => by
      have := claimsFrom_ne_nil hcin hci
      rw [hrest, hd] at this
      exact this rfl
    refine ⟨_, if_pos hown, hwait.trans ?_⟩
    rw [State.unpulled, hclaims]
    rfl
  | cons c cs =>
    have hclaims : s.usableClaims (s.route.first + m) = (c :: cs).takeWhile fun c => s.usable c := by
      show List.takeWhile _ (Machine.claimsFrom _ _) = _
      rw [hrest, hd]
    have hidx (k : Nat) (x : Claim) (hx : (c :: cs)[k]? = some x) : x.index = s.route.first + m + k := by
      rw [← hd, List.getElem?_drop] at hx
      rw [(hk.2.1 _ x hx).1, Nat.add_assoc]
    have hci := hidx 0 c rfl
    dsimp only
    by_cases hu : s.usable c = true
    · refine ⟨_, if_pos hu, ?_⟩
      rw [List.takeWhile_cons_of_pos hu] at hclaims
      have hlast := List.getLast?_eq_some_getLast (l := c :: cs.takeWhile fun c => s.usable c) (List.cons_ne_nil _ _)
      generalize (c :: cs.takeWhile fun c => s.usable c).getLast _ = last at hlast
      have hli : last.index = c.index + (cs.takeWhile fun c => s.usable c).length := by
        rw [List.getLast?_eq_getElem?, List.length_cons, Nat.add_sub_cancel] at hlast
        have hpre : (c :: cs.takeWhile fun c => s.usable c) <+: c :: cs :=
          List.cons_prefix_cons.mpr ⟨rfl, List.takeWhile_prefix _⟩
        rw [hidx _ last ((List.prefix_iff_getElem?.mp hpre _ (Nat.lt_succ_self _)).trans
          ((List.getElem?_eq_getElem (Nat.lt_succ_self _)).symm.trans hlast)), hci]
        omega
      rw [s.runFrom_eq front c cs fun k x hx => by rw [hidx (k + 1) x hx, hci]; omega, ← hli]
      exact State.runTo_length (by rw [hclaims]; exact hlast)
    · refine ⟨_, if_neg hu, hwait.trans ?_⟩
      rw [State.unpulled, hclaims, List.takeWhile_cons_of_neg hu]
      rfl

end

end Sys2Proof.Machine

/-!
PROOF. The keep-clear pull-back, and the authority record in SERVING (R107 to R114).
-/

namespace Sys2Proof.Machine

/-! ### Keep-clear windows (R112) -/

/-- The keep-clear windows between the front bound's cell and the point `p`: each one's start, and how far a
carrier that has crossed it reaches back to. -/
def State.windows (s : State) (own p behind : Nat) : List RouteEntry → Nat → List (Nat × Nat)
  | [], _ => []
  | e :: es, at_ =>
    if own < at_ ∧ at_ < p ∧ (s.classOf e.cell).keepClear = true then
      (at_, at_ + e.length + behind) :: s.windows own p behind es (at_ + e.length)
    else s.windows own p behind es (at_ + e.length)

/-- A window joins the chain that it starts within, or begins a chain. -/
def joinWindow : Option (Nat × Nat) → Nat × Nat → Option (Nat × Nat)
  | none, w => some w
  | some c, w => if w.1 < c.2 then some (c.1, max c.2 w.2) else some w

theorem State.keepClearChain_eq (s : State) (own p behind : Nat) (es : List RouteEntry) (at_ : Nat)
    (chain : Option (Nat × Nat)) :
    s.keepClearChain own p behind es at_ chain = (s.windows own p behind es at_).foldl joinWindow chain := by
  induction es generalizing at_ chain with
  | nil => rfl
  | cons e es ih =>
    unfold State.keepClearChain State.windows
    dsimp only
    split
    · rw [List.foldl_cons, ← ih]
      split
      · rfl
      next a b => exact (apply_ite (s.keepClearChain own p behind es (at_ + e.length)) _ _ _).symm
    · exact ih _ _

theorem State.mem_windows {s : State} {own p behind : Nat} {es : List RouteEntry} {at_ : Nat} {w : Nat × Nat} :
    w ∈ s.windows own p behind es at_ ↔ ∃ k e, es[k]? = some e ∧ own < at_ + lengths (es.take k)
      ∧ at_ + lengths (es.take k) < p ∧ (s.classOf e.cell).keepClear = true
      ∧ w = (at_ + lengths (es.take k), at_ + lengths (es.take (k + 1)) + behind) := by
  induction es generalizing at_ with
  | nil => exact iff_of_false List.not_mem_nil fun ⟨_, _, h, _⟩ => nomatch h
  | cons x xs ih =>
    have hplace (k : Nat) : at_ + x.length + lengths (xs.take k) = at_ + lengths ((x :: xs).take (k + 1)) := by
      rw [List.take_succ_cons, lengths_cons, Nat.add_assoc]
    have hrest : w ∈ s.windows own p behind xs (at_ + x.length) ↔ ∃ k e, (x :: xs)[k + 1]? = some e
        ∧ own < at_ + lengths ((x :: xs).take (k + 1)) ∧ at_ + lengths ((x :: xs).take (k + 1)) < p
        ∧ (s.classOf e.cell).keepClear = true
        ∧ w = (at_ + lengths ((x :: xs).take (k + 1)), at_ + lengths ((x :: xs).take (k + 1 + 1)) + behind) := by
      rw [ih]
      simp only [hplace, List.getElem?_cons_succ]
    have hfirst : lengths ((x :: xs).take 1) = x.length := by
      rw [List.take_succ_cons, List.take_zero, lengths_cons, lengths_nil, Nat.add_zero]
    unfold State.windows
    split
    next hcond =>
      rw [List.mem_cons, hrest]
      constructor
      · rintro (rfl | ⟨k, e, h⟩)
        · exact ⟨0, x, rfl, hcond.1, hcond.2.1, hcond.2.2, by rw [hfirst]; rfl⟩
        · exact ⟨k + 1, e, h⟩
      · rintro ⟨k, e, h⟩
        cases k with
        | zero => exact .inl (by rw [h.2.2.2.2, hfirst]; rfl)
        | succ k => exact .inr ⟨k, e, h⟩
    next hcond =>
      rw [hrest]
      constructor
      · rintro ⟨k, e, h⟩
        exact ⟨k + 1, e, h⟩
      · rintro ⟨k, e, h⟩
        cases k with
        | zero =>
          cases h.1
          exact absurd ⟨h.2.1, h.2.2.1, h.2.2.2.1⟩ hcond
        | succ k => exact ⟨k, e, h⟩

theorem State.windows_sorted (s : State) (own p behind : Nat) (es : List RouteEntry) (at_ : Nat) :
    (s.windows own p behind es at_).Pairwise fun a b => a.1 ≤ b.1 := by
  induction es generalizing at_ with
  | nil => exact .nil
  | cons e es ih =>
    unfold State.windows
    split
    · refine List.pairwise_cons.mpr ⟨fun w hw => ?_, ih _⟩
      obtain ⟨k, x, -, -, -, -, rfl⟩ := State.mem_windows.mp hw
      dsimp only
      omega
    · exact ih _

/-- The chain found in a list of windows: it begins with one of them, the windows before it end at or before
its start, those of the chain end at or before its reach, and it leaves no gap. -/
def ChainOf (ws : List (Nat × Nat)) : Option (Nat × Nat) → Prop
  | none => ws = []
  | some c => (∃ w ∈ ws, w.1 = c.1) ∧ (∀ w ∈ ws, w.1 < c.1 → w.2 ≤ c.1) ∧ (∀ w ∈ ws, c.1 ≤ w.1 → w.2 ≤ c.2)
    ∧ ∀ x, c.1 < x → x < c.2 → ∃ w ∈ ws, w.1 < x ∧ x < w.2

theorem ChainOf.join {ws : List (Nat × Nat)} {chain : Option (Nat × Nat)} {w : Nat × Nat} (h : ChainOf ws chain)
    (hw : ∀ v ∈ ws, v.1 ≤ w.1) (hww : w.1 ≤ w.2) : ChainOf (ws ++ [w]) (joinWindow chain w) := by
  have self : w ∈ ws ++ [w] := List.mem_append_right _ (List.mem_singleton_self w)
  have old {v} (hv : v ∈ ws) : v ∈ ws ++ [w] := List.mem_append_left _ hv
  have split {v} (hv : v ∈ ws ++ [w]) : v ∈ ws ∨ v = w := (List.mem_append.mp hv).imp_right List.mem_singleton.mp
  cases chain with
  | none =>
    cases h
    refine ⟨⟨w, self, rfl⟩, fun v hv hlt => ?_, fun v hv _ => ?_, fun x h1 h2 => ⟨w, self, h1, h2⟩⟩
    · rw [List.mem_singleton.mp hv] at hlt
      exact absurd hlt (Nat.lt_irrefl _)
    · exact Nat.le_of_eq (by rw [List.mem_singleton.mp hv])
  | some c =>
    obtain ⟨⟨a, ha, hac⟩, hbefore, hin, hgap⟩ := h
    have hstart : c.1 ≤ w.1 := hac ▸ hw a ha
    show ChainOf _ (if w.1 < c.2 then some (c.1, max c.2 w.2) else some w)
    by_cases hlt : w.1 < c.2
    · rw [if_pos hlt]
      refine ⟨⟨a, old ha, hac⟩, fun v hv hvc => ?_, fun v hv hvc => ?_, fun x h1 h2 => ?_⟩
      · obtain hv | rfl := split hv
        · exact hbefore v hv hvc
        · exact absurd hvc (Nat.not_lt.mpr hstart)
      · obtain hv | rfl := split hv
        · exact Nat.le_trans (hin v hv hvc) (Nat.le_max_left _ _)
        · exact Nat.le_max_right _ _
      · by_cases hx : x < c.2
        · obtain ⟨v, hv, hvx⟩ := hgap x h1 hx
          exact ⟨v, old hv, hvx⟩
        · exact ⟨w, self, Nat.lt_of_lt_of_le hlt (Nat.not_lt.mp hx), by omega⟩
    · rw [if_neg hlt]
      refine ⟨⟨w, self, rfl⟩, fun v hv hvw => ?_, fun v hv hvw => ?_, fun x h1 h2 => ⟨w, self, h1, h2⟩⟩
      · obtain hv | rfl := split hv
        · by_cases hvc : v.1 < c.1
          · exact Nat.le_trans (hbefore v hv hvc) hstart
          · exact Nat.le_trans (hin v hv (Nat.not_lt.mp hvc)) (Nat.not_lt.mp hlt)
        · exact absurd hvw (Nat.lt_irrefl _)
      · obtain hv | rfl := split hv
        · exact Nat.le_trans (hin v hv (Nat.le_trans hstart hvw)) (Nat.le_trans (Nat.not_lt.mp hlt) hww)
        · exact Nat.le_refl _

theorem chainOf_foldl {ws : List (Nat × Nat)} (hs : ws.Pairwise fun a b => a.1 ≤ b.1) (hw : ∀ w ∈ ws, w.1 ≤ w.2) :
    ChainOf ws (ws.foldl joinWindow none) := by
  induction ws using list_end_induction with
  | nil => rfl
  | append_singleton ws w ih =>
    obtain ⟨hs, -, hlast⟩ := List.pairwise_append.mp hs
    rw [List.foldl_append]
    exact (ih hs fun v hv => hw v (List.mem_append_left _ hv)).join
      (fun v hv => hlast v hv w (List.mem_singleton_self w)) (hw w (List.mem_append_right _ (List.mem_singleton_self w)))

/-- The keep-clear windows between the front bound's cell, which starts at `own`, and the point `p` (R112). -/
def State.keepClearAt (s : State) (own p k : Nat) : Prop := ∃ x, s.route.entry? k = some x
  ∧ own < s.route.startOf k ∧ s.route.startOf k < p ∧ (s.classOf x.cell).keepClear = true

/-- How far a carrier that has crossed entry `k` reaches back to. -/
def State.reach (s : State) (k : Nat) : Nat := s.route.endOf k + s.config.params.vehicleLength + 2 * s.pos.u

theorem State.mem_windows_iff {s : State} {own p : Nat} {w : Nat × Nat} :
    w ∈ s.windows own p (s.config.params.vehicleLength + 2 * s.pos.u) s.route.entries 0
      ↔ ∃ k, s.keepClearAt own p k ∧ w = (s.route.startOf k, s.reach k) := by
  rw [State.mem_windows]
  constructor
  · rintro ⟨k, e, hk, h1, h2, h3, rfl⟩
    rw [Nat.zero_add, ← s.route.startOf_first_add] at h1 h2
    refine ⟨s.route.first + k, ⟨e, RouteStore.entry?_eq_some.mpr ⟨k, rfl, hk⟩, h1, h2, h3⟩, ?_⟩
    rw [State.reach, RouteStore.endOf, Nat.add_assoc s.route.first, s.route.startOf_first_add,
      s.route.startOf_first_add, Nat.zero_add, Nat.zero_add, Nat.add_assoc]
  · rintro ⟨i, ⟨e, he, h1, h2, h3⟩, rfl⟩
    obtain ⟨k, rfl, hk⟩ := RouteStore.entry?_eq_some.mp he
    rw [s.route.startOf_first_add] at h1 h2
    refine ⟨k, e, hk, by rwa [Nat.zero_add], by rwa [Nat.zero_add], h3, ?_⟩
    rw [State.reach, RouteStore.endOf, Nat.add_assoc s.route.first, s.route.startOf_first_add,
      s.route.startOf_first_add, Nat.zero_add, Nat.zero_add, Nat.add_assoc]

/-- The length after the pull-back (R112): L0, or back to the start of the first window of the chain over the
point. -/
theorem State.pulledBack_spec (s : State) {front own l0 : Nat}
    (hfront : ∀ k, s.keepClearAt own (front + l0) k → front ≤ s.route.startOf k) :
    let l := s.pulledBack front own l0
    ((∀ k, s.keepClearAt own (front + l0) k → s.reach k ≤ front + l0) → l = l0)
      ∧ ((∃ k, s.keepClearAt own (front + l0) k ∧ front + l0 < s.reach k) → ∃ k, s.keepClearAt own (front + l0) k
        ∧ front + l = s.route.startOf k
        ∧ (∀ x, s.route.startOf k < x → x ≤ front + l0 →
          ∃ j, s.keepClearAt own (front + l0) j ∧ s.route.startOf j < x ∧ x < s.reach j)
        ∧ ∀ j, s.keepClearAt own (front + l0) j → s.route.startOf j < s.route.startOf k →
          s.reach j ≤ s.route.startOf k)
      ∧ l ≤ l0 := by
  have hproper : ∀ w ∈ s.windows own (front + l0) (s.config.params.vehicleLength + 2 * s.pos.u) s.route.entries 0,
      w.1 ≤ w.2 := fun w hw => by
    obtain ⟨k, -, rfl⟩ := State.mem_windows_iff.mp hw
    have : s.route.startOf k ≤ s.route.startOf (k + 1) := s.route.startOf_mono (Nat.le_succ k)
    show s.route.startOf k ≤ s.route.startOf (k + 1) + _ + _
    omega
  have hchain := chainOf_foldl (s.windows_sorted own (front + l0) (s.config.params.vehicleLength + 2 * s.pos.u)
    s.route.entries 0) hproper
  rw [← s.keepClearChain_eq] at hchain
  have window {k} (hk : s.keepClearAt own (front + l0) k) := State.mem_windows_iff.mpr ⟨k, hk, rfl⟩
  unfold State.pulledBack
  dsimp only
  cases hc : s.keepClearChain own (front + l0) (s.config.params.vehicleLength + 2 * s.pos.u) s.route.entries 0 none with
  | none =>
    rw [hc] at hchain
    have hnone : ∀ k, ¬ s.keepClearAt own (front + l0) k := fun k hk => by
      have := window hk
      rw [show s.windows _ _ _ _ _ = [] from hchain] at this
      exact absurd this List.not_mem_nil
    exact ⟨fun _ => rfl, fun ⟨k, hk, _⟩ => absurd hk (hnone k), Nat.le_refl _⟩
  | some c =>
    rw [hc] at hchain
    obtain ⟨⟨w, hw, hstart⟩, hbefore, hin, hgap⟩ := hchain
    obtain ⟨k, hk, rfl⟩ := State.mem_windows_iff.mp hw
    have hkp := hk
    obtain ⟨-, -, -, hpast, -⟩ := hkp
    have hfk := hfront k hk
    dsimp only at hstart ⊢
    rw [← hstart] at hbefore hin hgap ⊢
    by_cases hp : front + l0 < c.2
    · rw [if_pos hp]
      refine ⟨fun hall => ?_, fun _ => ⟨k, hk, by omega, fun x h1 h2 => ?_, fun j hj hlt => hbefore _ (window hj) hlt⟩,
        by omega⟩
      · obtain ⟨w, hw, -, h2⟩ := hgap (front + l0) hpast hp
        obtain ⟨j, hj, rfl⟩ := State.mem_windows_iff.mp hw
        exact absurd (hall j hj) (Nat.not_le.mpr h2)
      · obtain ⟨w, hw, h1, h2⟩ := hgap x h1 (Nat.lt_of_le_of_lt h2 hp)
        obtain ⟨j, hj, rfl⟩ := State.mem_windows_iff.mp hw
        exact ⟨j, hj, h1, h2⟩
    · rw [if_neg hp]
      refine ⟨fun _ => rfl, fun ⟨j, hj, hjr⟩ => ?_, Nat.le_refl _⟩
      by_cases hlt : s.route.startOf j < s.route.startOf k
      · have := hbefore _ (window hj) hlt
        dsimp only at this
        omega
      · have := hin _ (window hj) (Nat.not_lt.mp hlt)
        dsimp only at this
        omega

/-! ### The record in SERVING (R107 to R114) -/

section
variable {s : State} {front i own : Nat} {e : RouteEntry}

theorem State.computeAuthority_outside (hm : s.ctl.mode = .serving) (hf : s.front? = some front)
    (h : s.usableRun front = none) :
    s.computeAuthority = (⟨0, some (s.route.locate front), 0, s.auth.overrun⟩, true) := by
  unfold State.computeAuthority
  rw [hf]
  dsimp only
  rw [if_neg (Classical.not_not.mpr hm), h]

theorem State.computeAuthority_inside (hk : s.route.claimed s.claims.list) (hm : s.ctl.mode = .serving)
    (hf : s.front? = some front) (hc : s.route.cellAt front = some (i, e, own))
    (h : (∃ c ∈ s.claims.list, c.index = i) ∨ own = front) :
    s.computeAuthority = (⟨s.pulledBack front own (s.unpulled front i),
      some (s.route.locate (front + s.pulledBack front own (s.unpulled front i))),
      s.ceilingSearch front (s.effectiveCap e) (s.pulledBack front own (s.unpulled front i))
        (s.config.params.maxSpeed / 5), s.auth.overrun⟩, false) := by
  obtain ⟨run, hrun, hlen⟩ := hk.usableRun hc h
  unfold State.computeAuthority
  rw [hf]
  dsimp only
  rw [if_neg (Classical.not_not.mpr hm), hrun, hc]
  dsimp only
  rw [hlen]

/-- A window behind the front bound's cell starts beyond the front bound. -/
theorem State.keepClearAt.front_le {p k : Nat} (hc : s.route.cellAt front = some (i, e, own)) (h : s.keepClearAt own p k) :
    front ≤ s.route.startOf k := by
  obtain ⟨-, rfl, -, hend⟩ := RouteStore.cellAt_eq_some.mp hc
  obtain ⟨-, -, hown, -⟩ := h
  have hik : i < k := by
    refine Classical.byContradiction fun hle => ?_
    exact absurd hown (Nat.not_lt.mpr (s.route.startOf_mono (Nat.not_lt.mp hle)))
  exact Nat.le_of_lt (Nat.lt_of_lt_of_le hend (s.route.endOf_le_startOf hik))

end

/-- Settles O15. -/
theorem ceilingIsLargest : Obligations.CeilingIsLargest := by
  unfold Obligations.CeilingIsLargest
  refine ⟨fun s front cap l n => ⟨s.ceilingSearch_le front cap l n, s.ceilingSearch_mod front cap l n,
      s.ceilingSearch_ok front cap l n, s.ceilingSearch_largest front cap l n⟩,
    fun s front cap l v => State.ceilingOk_iff, fun s c => State.usable_iff, fun r x hr hne => ?_,
    fun s hm => State.computeAuthority_of_not_serving hm, fun s front hs hm hf => ?_⟩
  · obtain ⟨hholds, hdist⟩ := hr.locate_spec hne x
    obtain ⟨k, e, hi, hk, hoff⟩ := RouteStore.holds_iff.mp hholds
    exact ⟨e, RouteStore.entry?_eq_some.mpr ⟨k, hi, hk⟩, hdist, hoff⟩
  · intro outside
    have hclaimed := (State.structureOk_iff.mp hs).claimed
    refine ⟨fun hc => State.computeAuthority_outside hm hf ?_, fun i e own hc => ⟨fun hn hlt => ?_, fun h => ?_⟩⟩
    · rw [State.usableRun, hc]
    · refine State.computeAuthority_outside hm hf (State.usableRun_eq_none_iff.mpr fun j e' b hc' => ?_)
      cases hc.symm.trans hc'
      exact ⟨dropWhile_nil_iff.mpr fun c hcin => bne_iff_ne.mpr (hn c hcin), Nat.ne_of_lt hlt⟩
    · intro run toStop toEnd l0 keepClear reach
      have hl0 : s.unpulled front i = l0 := rfl
      obtain ⟨hstays, hpulled, -⟩ := s.pulledBack_spec (own := own) (l0 := l0) fun k hk => hk.front_le hc
      exact ⟨_, State.computeAuthority_inside hclaimed hm hf hc h, hstays, hpulled⟩

/-! ### The authority stops short of blocked cells (R109) -/

theorem firstStopIn_spec {es : List RouteEntry} {i : Nat} {p : RoutePos} (h : firstStopIn es i = some p) :
    ∃ k e, es[k]? = some e ∧ p.index = i + k ∧ e.stop = some p.offset ∧ e.released = false := by
  induction es generalizing i with
  | nil => cases h
  | cons e es ih =>
    have later (h : firstStopIn es (i + 1) = some p) :
        ∃ k x, (e :: es)[k]? = some x ∧ p.index = i + k ∧ x.stop = some p.offset ∧ x.released = false := by
      obtain ⟨k, x, hk, hi, hx⟩ := ih h
      exact ⟨k + 1, x, hk, by omega, hx⟩
    unfold firstStopIn at h
    split at h
    next o ho =>
      split at h
      · exact later h
      next hr =>
        cases h
        exact ⟨0, e, rfl, rfl, ho, Bool.not_eq_true _ ▸ hr⟩
    · exact later h

/-- The first unreleased stop point lies within its entry (R4). -/
theorem RouteStore.ok.firstStop_le {r : RouteStore} (h : r.ok) {p : RoutePos} (hp : r.firstStop = some p) :
    r.distance p ≤ r.endOf p.index := by
  obtain ⟨k, e, hk, hi, hstop, -⟩ := firstStopIn_spec hp
  have he : r.entry? p.index = some e := RouteStore.entry?_eq_some.mpr ⟨k, hi, hk⟩
  have hlt := (h.2.2.2.2.2.1 e (List.mem_of_getElem? hk)).2.2.2
  rw [hstop, Option.all_some, decide_eq_true_iff] at hlt
  rw [RouteStore.distance, RouteStore.endOf_eq he]
  omega

/-- The usable run stands on consecutive entries, from the one it begins on. -/
theorem RouteStore.claimed.usableClaims_getElem {s : State} (hk : s.route.claimed s.claims.list) {m j : Nat} {c : Claim}
    (h : (s.usableClaims (s.route.first + m))[j]? = some c) :
    c ∈ s.claims.list ∧ c.index = s.route.first + m + j ∧ s.usable c = true := by
  have hpre : s.usableClaims (s.route.first + m) <+: s.claims.list.drop m := by
    rw [← hk.claimsFrom m]
    exact List.takeWhile_prefix _
  have hget : s.claims.list[m + j]? = some c := by
    obtain ⟨hlt, hc⟩ := List.getElem?_eq_some_iff.mp h
    rw [← List.getElem?_drop]
    exact hc ▸ List.prefix_iff_getElem?.mp hpre j hlt
  exact ⟨List.mem_of_getElem? hget, by rw [(hk.2.1 _ c hget).1, Nat.add_assoc],
    passes_of_mem_takeWhile (List.mem_of_getElem? h)⟩

section
variable {s : State} {i : Nat} {e : RouteEntry} (hk : s.route.claimed s.claims.list) (hr : s.route.ok)
variable (he : s.route.entry? i = some e) (hb : s.peers.blocked e.cell = true)
variable (ho : ∀ c ∈ s.claims.list, c.index = i → c.state ≠ .occupied)
include hk he hb ho

/-- A blocked cell without an own OCCUPIED claim has no place in the usable run. -/
theorem State.usableClaims_index_ne {m j : Nat} {c : Claim} (h : (s.usableClaims (s.route.first + m))[j]? = some c) :
    c.index ≠ i := by
  intro hi
  obtain ⟨hc, -, hu⟩ := hk.usableClaims_getElem h
  obtain hocc | ⟨-, -, hfree⟩ := State.usable_iff.mp hu
  · exact ho c hc hi hocc
  · obtain ⟨k, hget⟩ := List.mem_iff_getElem?.mp hc
    obtain ⟨hck, x, hx, hcell⟩ := hk.2.1 k c hget
    have hxe := RouteStore.entry?_eq_some.mpr ⟨k, hck, hx⟩
    rw [hi, he] at hxe
    cases hxe
    rw [hcell] at hfree
    exact absurd (hb.symm.trans hfree) nofun

include hr in
/-- L0 ends at or before a blocked cell ahead (R109, R110). -/
theorem State.unpulled_short {front m own : Nat} {x : RouteEntry} (hc : s.route.cellAt front = some (m, x, own))
    (hfront : front ≤ s.route.startOf i) : front + s.unpulled front m ≤ s.route.startOf i := by
  obtain ⟨hx, rfl, hown, -⟩ := RouteStore.cellAt_eq_some.mp hc
  obtain ⟨k, rfl, -⟩ := RouteStore.entry?_eq_some.mp hx
  cases hl : (s.usableClaims (s.route.first + k)).getLast? with
  | none => rw [State.unpulled, hl]; exact hfront
  | some last =>
    have hlast := hl
    rw [List.getLast?_eq_getElem?] at hlast
    obtain ⟨-, hli, -⟩ := hk.usableClaims_getElem hlast
    have hahead : last.index < i := by
      refine Classical.byContradiction fun hle => ?_
      have hki : s.route.first + k ≤ i := by
        refine Classical.byContradiction fun hlt => ?_
        have h1 := s.route.endOf_le_startOf (Nat.not_le.mp hlt)
        have h2 := hr.length_ge he
        rw [RouteStore.endOf_eq he] at h1
        omega
      have hin : i - (s.route.first + k) < (s.usableClaims (s.route.first + k)).length := by
        have := (List.getElem?_eq_some_iff.mp hlast).1
        omega
      have hget := List.getElem?_eq_getElem hin
      have := (hk.usableClaims_getElem hget).2.1
      exact State.usableClaims_index_ne hk he hb ho hget (by omega)
    have hend := s.route.endOf_le_startOf hahead
    have hlen := State.runTo_length (front := front) hl
    rw [← hlen]
    unfold State.runTo Run.length
    split
    next p hp =>
      have hstop := hr.firstStop_le hp
      split
      next hle =>
        have : s.route.endOf p.index ≤ s.route.endOf last.index := s.route.startOf_mono (Nat.succ_le_succ hle)
        dsimp only
        rw [if_pos rfl]
        omega
      · dsimp only
        rw [if_neg Bool.false_ne_true]
        omega
    · dsimp only
      rw [if_neg Bool.false_ne_true]
      omega

/-- With the front bound in the blocked cell itself the run is empty. -/
theorem State.unpulled_inside {front : Nat} : s.unpulled front i = 0 := by
  obtain ⟨k, rfl, -⟩ := RouteStore.entry?_eq_some.mp he
  have hnil : s.usableClaims (s.route.first + k) = [] := by
    cases hu : s.usableClaims (s.route.first + k) with
    | nil => rfl
    | cons c cs =>
      have hget : (s.usableClaims (s.route.first + k))[0]? = some c := by rw [hu]; rfl
      exact absurd (hk.usableClaims_getElem hget).2.1 (State.usableClaims_index_ne hk he hb ho hget)
  rw [State.unpulled, hnil]
  rfl

end

/-- Settles O14. -/
theorem authorityStopsShortOfBlockedCells : Obligations.AuthorityStopsShortOfBlockedCells := by
  unfold Obligations.AuthorityStopsShortOfBlockedCells
  intro s front i e hs hf he hb ho
  have hs := State.structureOk_iff.mp hs
  have none (h : s.computeAuthority.1.length = 0) : (front ≤ s.route.startOf i →
      front + s.computeAuthority.1.length ≤ s.route.startOf i)
      ∧ (s.route.startOf i < front → front < s.route.endOf i → s.computeAuthority.1.length = 0) := by
    rw [h]
    exact ⟨id, fun _ _ => rfl⟩
  by_cases hm : s.ctl.mode = .serving
  · cases hrun : s.usableRun front with
    | none => exact none (by rw [State.computeAuthority_outside hm hf hrun])
    | some run =>
      cases hc : s.route.cellAt front with
      | none =>
        rw [State.usableRun, hc] at hrun
        cases hrun
      | some y =>
        obtain ⟨m, x, own⟩ := y
        have hin : (∃ c ∈ s.claims.list, c.index = m) ∨ own = front := by
          refine Classical.byContradiction fun hno => ?_
          obtain ⟨hno, hne⟩ := not_or.mp hno
          have : s.usableRun front = Option.none := State.usableRun_eq_none_iff.mpr fun j e' b hc' => by
            cases hc.symm.trans hc'
            exact ⟨dropWhile_nil_iff.mpr fun c hcin => bne_iff_ne.mpr fun hi => hno ⟨c, hcin, hi⟩, hne⟩
          rw [hrun] at this
          cases this
        have hle := (s.pulledBack_spec (own := own) (l0 := s.unpulled front m) fun k hk => hk.front_le hc).2.2
        rw [State.computeAuthority_inside hs.claimed hm hf hc hin]
        dsimp only
        refine ⟨fun hfront => ?_, fun h1 h2 => ?_⟩
        · have := State.unpulled_short hs.claimed hs.route he hb ho hc hfront
          omega
        · have hci := RouteStore.cellAt_eq_some.mpr ⟨he, rfl, Nat.le_of_lt h1, h2⟩
          cases hc.symm.trans hci
          rw [State.unpulled_inside hs.claimed he hb ho] at hle ⊢
          omega
  · exact none (by rw [State.computeAuthority_of_not_serving hm]; rfl)

end Sys2Proof.Machine

/-!
PROOF. A position change handed on: what the front bound enters, what the rear bound leaves, and claiming
ahead (R10, R25, R51 to R53, R63).
-/

namespace Sys2Proof.Machine

/-! ### Occupation (R51, R52) -/

/-- What occupation from the entry in place `m` on makes of the claims of `s`: the list `t`, and whether an
entry entered was an overrun. -/
structure State.Entered (s : State) (front m : Nat) (t : List Claim) (b : Bool) : Prop where
  old : ∀ (k : Nat) c, s.claims.list[k]? = some c →
    t[k]? = some (if m ≤ k ∧ s.route.startOf (s.route.first + k) < front then c.entered s.now else c)
  made : ∀ (k : Nat) c, s.claims.list.length ≤ k → t[k]? = some c →
    k < 12 ∧ s.route.startOf (s.route.first + k) < front ∧ ∃ e, s.route.entries[k]? = some e
      ∧ c = ⟨c.identity, s.route.first + k, e.cell, .occupied, 0, none, some s.now, e.crane, none, none⟩
  covers : ∀ (k : Nat) e, m ≤ k → s.route.entries[k]? = some e → s.route.startOf (s.route.first + k) < front →
    k < 12 → k < t.length
  overrun : b = true ↔ ∃ (k : Nat) (e : RouteEntry), m ≤ k ∧ s.route.entries[k]? = some e
    ∧ s.route.startOf (s.route.first + k) < front ∧ ∀ c, s.claims.list[k]? = some c → c.state = .tentative

theorem State.enterEntry_overrun {s : State} {m : Nat} (h : s.route.claimed s.claims.list) (e : RouteEntry) :
    (s.enterEntry (s.route.first + m) e).2 = true ↔ ∀ c, s.claims.list[m]? = some c → c.state = .tentative := by
  unfold State.enterEntry
  rw [h.claimAt m]
  cases s.claims.list[m]? with
  | none =>
    dsimp only
    split <;> exact iff_of_true rfl nofun
  | some c => exact ⟨fun hs _ hc => Option.some.inj hc ▸ beq_iff_eq.mp hs, fun hs => beq_iff_eq.mpr (hs c rfl)⟩

theorem State.enterEntry_now (s : State) (i : Nat) (e : RouteEntry) : (s.enterEntry i e).1.now = s.now := by
  obtain ⟨k, h⟩ := s.enterEntry_claims i e
  rw [h]
  rfl

section
variable {s : State} {front m : Nat} (h : s.route.occupiedTo m s.claims.list)
include h

/-- Where no further entry starts before the front bound nothing is entered. -/
theorem State.Entered.stop (hstop : ∀ (k : Nat) e, m ≤ k → s.route.entries[k]? = some e →
    front ≤ s.route.startOf (s.route.first + k)) : s.Entered front m s.claims.list false where
  old k c hk := by
    obtain ⟨-, e, he, -⟩ := h.1.2.1 k c hk
    rw [if_neg fun hc => absurd hc.2 (Nat.not_lt.mpr (hstop k e hc.1 he))]
    exact hk
  made k c hlen hk := absurd (List.getElem?_eq_some_iff.mp hk).1 (Nat.not_lt.mpr hlen)
  covers k e hm he hlt := absurd hlt (Nat.not_lt.mpr (hstop k e hm he))
  overrun := iff_of_false nofun fun ⟨k, e, hm, he, hlt, _⟩ => absurd hlt (Nat.not_lt.mpr (hstop k e hm he))

/-- One entry entered, and then the others. -/
theorem State.Entered.cons {e : RouteEntry} (he : s.route.entries[m]? = some e)
    (hlt : s.route.startOf (s.route.first + m) < front) {t : List Claim} {b : Bool}
    (hrest : (s.enterEntry (s.route.first + m) e).1.Entered front (m + 1) t b) :
    s.Entered front m t ((s.enterEntry (s.route.first + m) e).2 || b) := by
  obtain ⟨hcl, -, hfull⟩ := h
  have hlist := State.enterEntry_list (m := m) hcl e
  obtain ⟨old, made, covers, overrun⟩ := hrest
  simp only [State.enterEntry_route, State.enterEntry_now] at old made covers overrun
  generalize (s.enterEntry (s.route.first + m) e).1.claims.list = l at hlist old made overrun
  -- what the one entry makes of the list, by place
  have hplace (k : Nat) (c : Claim) (hk : s.claims.list[k]? = some c) :
      l[k]? = some (if k = m then c.entered s.now else c) := by
    have hidx := (hcl.2.1 k c hk).1
    have hklt := (List.getElem?_eq_some_iff.mp hk).1
    by_cases hml : m < s.claims.list.length
    · rw [hlist, if_pos hml, List.getElem?_map, hk, Option.map_some]
      by_cases hkm : k = m
      · rw [if_pos hkm, if_pos (by omega)]
      · rw [if_neg hkm, if_neg (by omega)]
    · have hkm : k ≠ m := by omega
      rw [hlist, if_neg hml, if_neg hkm]
      split
      · rw [List.getElem?_append_left hklt, hk]
      · exact hk
  have hnew (k : Nat) (hk : s.claims.list.length ≤ k) (c : Claim) (hc : l[k]? = some c) : k = m ∧ k < 12
      ∧ c = s.newClaim (s.route.first + m) e .occupied 0 (some s.now) := by
    have hkl := (List.getElem?_eq_some_iff.mp hc).1
    rw [hlist] at hc hkl
    split at hc
    · rw [if_pos ‹_›, List.length_map] at hkl
      omega
    · rw [if_neg ‹_›] at hkl
      split at hc
      · rw [if_pos ‹_›, List.length_append, List.length_singleton] at hkl
        have hkm : k = s.claims.list.length := by omega
        rw [hkm, List.getElem?_append_right (Nat.le_refl _), Nat.sub_self] at hc
        exact ⟨by omega, by omega, (Option.some.inj hc).symm⟩
      · rw [if_neg ‹_›] at hkl
        omega
  have hhere (hm : m < 12) : m < l.length := by
    rw [hlist]
    split
    · rwa [List.length_map]
    · rw [if_pos (by omega), List.length_append, List.length_singleton]
      omega
  have hbehind (k : Nat) (x : Claim) (hkm : k ≤ m) (hx : l[k]? = some x) : t[k]? = some x := by
    rw [old k x hx, if_neg (by omega)]
  refine ⟨fun k c hk => ?_, fun k c hlen hk => ?_, fun k x hm hx hlt' h12 => ?_, ?_⟩
  · rw [old k _ (hplace k c hk)]
    by_cases hkm : k = m
    · rw [if_pos hkm, if_neg (by omega), if_pos ⟨by omega, hkm ▸ hlt⟩]
    · rw [if_neg hkm]
      by_cases hb : m ≤ k ∧ s.route.startOf (s.route.first + k) < front
      · rw [if_pos hb, if_pos ⟨by omega, hb.2⟩]
      · rw [if_neg hb, if_neg fun hc => hb ⟨by omega, hc.2⟩]
  · cases hl : l[k]? with
    | none => exact made k c (List.getElem?_eq_none_iff.mp hl) hk
    | some x =>
      obtain ⟨rfl, h12, rfl⟩ := hnew k hlen x hl
      rw [hbehind k _ (Nat.le_refl _) hl] at hk
      cases hk
      exact ⟨h12, hlt, e, he, rfl⟩
  · by_cases hkm : k = m
    · subst hkm
      have hl := List.getElem?_eq_getElem (hhere h12)
      exact (List.getElem?_eq_some_iff.mp (hbehind k _ (Nat.le_refl _) hl)).1
    · exact covers k x (by omega) hx hlt' h12
  · have hsame (k : Nat) (hkm : m + 1 ≤ k) (x : Claim) : l[k]? = some x ↔ s.claims.list[k]? = some x := by
      constructor
      · intro hx
        cases hk : s.claims.list[k]? with
        | none =>
          have := (hnew k (List.getElem?_eq_none_iff.mp hk) x hx).1
          omega
        | some c =>
          rw [hplace k c hk, if_neg (by omega)] at hx
          exact hx
      · intro hx
        rw [hplace k x hx, if_neg (by omega)]
    rw [Bool.or_eq_true, State.enterEntry_overrun hcl, overrun]
    constructor
    · rintro (hten | ⟨k, x, hm, hx, hlt', hten⟩)
      · exact ⟨m, e, Nat.le_refl m, he, hlt, hten⟩
      · exact ⟨k, x, by omega, hx, hlt', fun c hc => hten c ((hsame k hm c).mpr hc)⟩
    · rintro ⟨k, x, hm, hx, hlt', hten⟩
      by_cases hkm : k = m
      · exact .inl (hkm ▸ hten)
      · exact .inr ⟨k, x, by omega, hx, hlt', fun c hc => hten c ((hsame k (by omega) c).mp hc)⟩

end

theorem enterUpTo_entered (front : Nat) (es : List RouteEntry) {s : State} {m : Nat}
    (hes : es = s.route.entries.drop m) (h : s.route.occupiedTo m s.claims.list) :
    s.Entered front m (enterUpTo front es (s.route.first + m) (s.route.startOf (s.route.first + m)) s).1.claims.list
      (enterUpTo front es (s.route.first + m) (s.route.startOf (s.route.first + m)) s).2 := by
  induction es generalizing s m with
  | nil =>
    refine State.Entered.stop h fun k e hm he => ?_
    have := List.drop_eq_nil_iff.mp hes.symm
    have := (List.getElem?_eq_some_iff.mp he).1
    omega
  | cons e es ih =>
    have he : s.route.entries[m]? = some e := by
      rw [← Nat.add_zero m, ← List.getElem?_drop, ← hes]
      rfl
    unfold enterUpTo
    split
    next hlt =>
      have hroute := s.enterEntry_route (s.route.first + m) e
      have hnext : s.route.startOf (s.route.first + m) + e.length = s.route.startOf (s.route.first + (m + 1)) := by
        rw [s.route.startOf_first_add, s.route.startOf_first_add, lengths_take_succ he]
      have hrest := ih (s := (s.enterEntry (s.route.first + m) e).1) (m := m + 1) (by
        rw [hroute, ← List.drop_drop, ← hes]
        rfl) (by rw [hroute]; exact h.enterEntry he)
      rw [hroute, ← hnext] at hrest
      exact State.Entered.cons h he hlt hrest
    next hge =>
      refine State.Entered.stop h fun k x hm _ => ?_
      have := s.route.startOf_mono (show s.route.first + m ≤ s.route.first + k by omega)
      omega

/-! ### New claims ahead (R45) -/

/-- A claim that claiming ahead has made on a live entry. -/
def RouteStore.newAhead (r : RouteStore) (c : Claim) : Prop := ∃ e, r.entry? c.index = some e
  ∧ c = ⟨c.identity, c.index, e.cell, .tentative, 0, none, none, e.crane, none, none⟩

theorem claimAheadLoop_new (n : Nat) (s : State) : ∃ new, (claimAheadLoop n s).claims.list = s.claims.list ++ new
    ∧ ∀ c ∈ new, s.route.newAhead c := by
  induction n generalizing s with
  | zero => exact ⟨[], (List.append_nil _).symm, nofun⟩
  | succ n ih =>
    unfold claimAheadLoop
    cases hx : s.nextToClaim with
    | none => exact ⟨[], (List.append_nil _).symm, nofun⟩
    | some x =>
      obtain ⟨new, hnew, hall⟩ := ih (s.addClaim (s.newClaim x.1 x.2 .tentative 0 none))
      obtain ⟨-, -, -, hentry, -⟩ := State.nextToClaim_spec hx
      refine ⟨s.newClaim x.1 x.2 .tentative 0 none :: new, ?_, List.forall_mem_cons.mpr ⟨⟨x.2, hentry, rfl⟩, hall⟩⟩
      exact hnew.trans (List.append_assoc _ _ _)

theorem State.claimAhead_new (s : State) : ∃ new, s.claimAhead.claims.list = s.claims.list ++ new
    ∧ ∀ c ∈ new, s.route.newAhead c := claimAheadLoop_new _ s

end Sys2Proof.Machine

/-!
PROOF. A position change handed on, from the claims and entries before it (R10, R25, R51 to R53, R63).
-/

namespace Sys2Proof.Machine

theorem RouteStore.claimed.getElem_of_index {r : RouteStore} {cs : List Claim} (h : r.claimed cs) {c : Claim} {k : Nat}
    (hc : c ∈ cs) (hi : c.index = r.first + k) : cs[k]? = some c := by
  obtain ⟨j, hj⟩ := List.mem_iff_getElem?.mp hc
  have := (h.2.1 j c hj).1
  rwa [show k = j by omega]

theorem RouteStore.claimed.exists_place {r : RouteStore} {cs : List Claim} (h : r.claimed cs) {c : Claim} (hc : c ∈ cs) :
    ∃ k, cs[k]? = some c ∧ c.index = r.first + k ∧ ∃ e, r.entries[k]? = some e ∧ c.cell = e.cell := by
  obtain ⟨k, hk⟩ := List.mem_iff_getElem?.mp hc
  exact ⟨k, hk, h.2.1 k c hk⟩

/-- A position change handed on, in parts: `T` the claims once the entries are entered, the first `n` of them
and of the live entries let go, `new` the claims made ahead. -/
structure State.HandedOn (s : State) (front : Nat) (rear : Int) (T new : List Claim) (b : Bool) (n : Nat) (t : State) :
    Prop where
  entered : s.Entered front 0 T b
  claimed : s.route.claimed T
  enough : n ≤ T.length
  stays : n < s.route.entries.length
  passed : n = 0 ∨ s.route.startOf (s.route.first + n) ≤ rear
  most : n = T.length ∨ s.route.entries.length ≤ n + 1 ∨ rear < s.route.endOf (s.route.first + n)
  route : t.route = s.route.retire n
  list : t.claims.list = T.drop n ++ new
  ahead : ∀ c ∈ new, (s.route.retire n).newAhead c
  none_ahead : T.length = n → new = []
  next : t.nextToClaim = none
  stands : t.route.claimed t.claims.list

theorem State.enterUpTo_spec {s : State} (h : s.route.claimed s.claims.list) (front : Nat) :
    s.Entered front 0 (enterUpTo front s.route.entries s.route.first 0 s).1.claims.list
      (enterUpTo front s.route.entries s.route.first 0 s).2 := by
  have hstart : s.route.startOf (s.route.first + 0) = 0 := by
    rw [s.route.startOf_first_add]
    rfl
  have := enterUpTo_entered front s.route.entries (s := s) (m := 0) rfl
    ⟨h, fun _ _ _ hk => absurd hk (Nat.not_lt_zero _), .inl (Nat.zero_le _)⟩
  rwa [hstart] at this

theorem State.Structured.entries_ne {s : State} (hs : s.Structured) {front : Nat} (hf : s.front? = some front) :
    s.route.entries ≠ [] := by
  obtain ⟨p, hp, -⟩ := State.front?_eq_some hf
  obtain ⟨k, e, -, he, -⟩ := RouteStore.holds_iff.mp (hs.holds hp)
  exact fun h0 => by rw [h0] at he; cases he

theorem State.rear_le_front {s : State} {front : Nat} {rear : Int} (hf : s.front? = some front) (hr : s.rear? = some rear) :
    rear ≤ front := by
  obtain ⟨p, hp, rfl⟩ := State.front?_eq_some hf
  rw [State.rear?, hp] at hr
  have hr := Option.some.inj hr
  dsimp only at hr
  omega

theorem Work.positionChange_handedOn {w : Work} {front : Nat} {rear : Int} (hs : w.s.Structured)
    (hf : w.s.front? = some front) (hr : w.s.rear? = some rear) : ∃ T new b n,
    w.s.HandedOn front rear T new b n w.positionChange.s
      ∧ w.positionChange.overrunEntry = (w.overrunEntry || b) := by
  obtain ⟨k, hk⟩ := enterUpTo_claims front w.s.route.entries w.s.route.first 0 w.s
  have hentered := State.enterUpTo_spec hs.claimed front
  have hclaimed := hs.claimed.enterUpTo front
  have hpc : w.positionChange = { w with
      s := (enterUpTo front w.s.route.entries w.s.route.first 0 w.s).1.release.claimAhead
      overrunEntry := w.overrunEntry || (enterUpTo front w.s.route.entries w.s.route.first 0 w.s).2
      recompute := true } := by
    unfold Work.positionChange
    rw [hf]
  rw [hpc]
  generalize (enterUpTo front w.s.route.entries w.s.route.first 0 w.s).2 = b at hentered
  rw [hk] at hentered hclaimed ⊢
  obtain ⟨n, hn, hT, hstay, hpast, hmost⟩ := releaseBehind_spec k.list w.s.route.entries rear
  have hrelease : (w.s.setClaims k).release
      = ((w.s.setClaims k).setList (k.list.drop n)).setRoute (w.s.route.retire n) := by
    unfold State.release
    rw [show (w.s.setClaims k).rear? = some rear from hr]
    dsimp only [State.setClaims_claims, State.setClaims_route]
    rw [hn]
    rfl
  rw [hrelease]
  obtain ⟨new, hnew, hahead⟩ :=
    (((w.s.setClaims k).setList (k.list.drop n)).setRoute (w.s.route.retire n)).claimAhead_new
  have hlen := List.length_pos_iff.mpr (hs.entries_ne hf)
  refine ⟨k.list, new, b, n, ⟨hentered, hclaimed, hT, by omega, ?_, ?_, ?_, hnew, hahead, fun hall => ?_,
    State.claimAhead_nextToClaim _, ?_⟩, rfl⟩
  · rw [w.s.route.startOf_first_add]
    exact hpast
  · rw [RouteStore.endOf, Nat.add_assoc, w.s.route.startOf_first_add]
    exact hmost
  · rw [State.claimAhead_eq]
    rfl
  · have hnil : k.list.drop n = [] := List.drop_eq_nil_iff.mpr (Nat.le_of_eq hall)
    rw [State.claimAhead_of_nil (by exact hnil)] at hnew
    have h0 : k.list.drop n = k.list.drop n ++ new := hnew
    exact List.self_eq_append_right.mp h0
  · have hle : n ≤ w.s.route.entries.length := by omega
    have hleft : (w.s.route.retire n).claimed (k.list.drop n) := by
      refine ⟨?_, hs.route.retire_carries hle hclaimed.2.1, hclaimed.2.2.sublist (List.drop_sublist _ _)⟩
      have := hclaimed.1
      rw [List.length_drop]
      exact Nat.le_trans (Nat.sub_le _ _) this
    rw [State.claimAhead_eq]
    exact RouteStore.claimed.claimAhead
      (s := ((w.s.setClaims k).setList (k.list.drop n)).setRoute (w.s.route.retire n)) hleft

section
variable {s t : State} {front : Nat} {rear : Int} {T new : List Claim} {b : Bool} {n : Nat}
variable (hs : s.Structured) (h : s.HandedOn front rear T new b n t)
include hs h

/-- The claims after the hand-on stand on the entries left. -/
theorem State.HandedOn.left {c : Claim} (hin : c ∈ t.claims.list) : ∃ j e,
    t.claims.list[j]? = some c ∧ c.index = s.route.first + (n + j) ∧ s.route.entries[n + j]? = some e := by
  obtain ⟨j, hj, hi, e, he, -⟩ := h.stands.exists_place hin
  rw [h.route, hs.route.retire_first (Nat.le_of_lt h.stays)] at hi
  rw [h.route, RouteStore.retire, List.getElem?_drop] at he
  exact ⟨j, e, hj, by omega, he⟩

omit hs in
/-- An entry let go ends at or before the rear bound. -/
theorem State.HandedOn.endOf_le {k : Nat} (hk : k < n) : (s.route.endOf (s.route.first + k) : Int) ≤ rear := by
  have hle : s.route.endOf (s.route.first + k) ≤ s.route.startOf (s.route.first + n) :=
    s.route.endOf_le_startOf (by omega)
  have := h.passed.resolve_left (by omega)
  omega

omit hs in
/-- An entry entered within the twelve first has an OCCUPIED claim. -/
theorem State.HandedOn.occupied {k : Nat} {e : RouteEntry} (he : s.route.entries[k]? = some e)
    (hlt : s.route.startOf (s.route.first + k) < front) (h12 : k < 12) : ∃ c, T[k]? = some c ∧ c.state = .occupied := by
  have hk := h.entered.covers k e (Nat.zero_le _) he hlt h12
  refine ⟨_, List.getElem?_eq_getElem hk, ?_⟩
  cases hc : s.claims.list[k]? with
  | some c =>
    have := h.entered.old k c hc
    rw [if_pos ⟨Nat.zero_le _, hlt⟩, List.getElem?_eq_getElem hk] at this
    rw [Option.some.inj this]
    exact c.entered_state s.now
  | none =>
    obtain ⟨-, -, x, -, hx⟩ := h.entered.made k _ (List.getElem?_eq_none_iff.mp hc) (List.getElem?_eq_getElem hk)
    rw [hx]

/-- A claim left or made behind the rear bound stands on an entry that reaches beyond it, or on the last. -/
theorem State.HandedOn.reaches {c : Claim} (hin : c ∈ t.claims.list) :
    rear < s.route.endOf c.index ∨ c.index + 1 = s.route.nextIndex := by
  obtain ⟨j, e, -, hi, he⟩ := h.left hs hin
  have hfirst := hs.route.first_add
  have hlt := (List.getElem?_eq_some_iff.mp he).1
  obtain hall | hlast | hmost := h.most
  · rw [h.list, h.none_ahead hall.symm, List.drop_eq_nil_iff.mpr (Nat.le_of_eq hall.symm)] at hin
    cases hin
  · exact .inr (by omega)
  · have : s.route.endOf (s.route.first + n) ≤ s.route.endOf c.index := s.route.startOf_mono (by omega)
    exact .inl (by omega)

/-- Where a claim stands on an entry that had none, the hand-on has made it: OCCUPIED where the front bound has
entered, TENTATIVE beyond. -/
theorem State.HandedOn.fresh {c : Claim} (hin : c ∈ t.claims.list)
    (hfresh : ∀ x ∈ s.claims.list, x.index ≠ c.index) : ∃ e, s.route.entry? c.index = some e
      ∧ ((s.route.startOf c.index < front ∧ c.index < s.route.first + 12
          ∧ c = ⟨c.identity, c.index, e.cell, .occupied, 0, none, some s.now, e.crane, none, none⟩)
        ∨ ((front ≤ s.route.startOf c.index ∨ s.route.first + 12 ≤ c.index)
          ∧ c = ⟨c.identity, c.index, e.cell, .tentative, 0, none, none, e.crane, none, none⟩)) := by
  have hlist := hin
  rw [h.list, List.mem_append] at hlist
  obtain hold | hnew := hlist
  · obtain ⟨k, hk, hi, -⟩ := h.claimed.exists_place (List.mem_of_mem_drop hold)
    have hlen : s.claims.list.length ≤ k := by
      refine Classical.byContradiction fun hlt => ?_
      have hget := List.getElem?_eq_getElem (Nat.not_le.mp hlt)
      exact hfresh _ (List.mem_of_getElem? hget) ((hs.claimed.2.1 k _ hget).1.trans hi.symm)
    obtain ⟨h12, hstart, e, he, hmade⟩ := h.entered.made k c hlen hk
    refine ⟨e, RouteStore.entry?_eq_some.mpr ⟨k, hi, he⟩, .inl ⟨hi ▸ hstart, by omega, ?_⟩⟩
    rwa [← hi] at hmade
  · obtain ⟨e, he, hmade⟩ := h.ahead c hnew
    obtain ⟨j, hj⟩ := List.mem_iff_getElem?.mp hnew
    have hplace : t.claims.list[(T.drop n).length + j]? = some c := by
      rw [h.list, List.getElem?_append_right (Nat.le_add_right _ _), Nat.add_sub_cancel_left]
      exact hj
    have hi := (h.stands.2.1 _ c hplace).1
    rw [h.route, hs.route.retire_first (Nat.le_of_lt h.stays), List.length_drop] at hi
    obtain ⟨k, hk, hek⟩ := RouteStore.entry?_eq_some.mp he
    rw [hs.route.retire_first (Nat.le_of_lt h.stays)] at hk
    rw [RouteStore.retire, List.getElem?_drop] at hek
    have hentry : s.route.entry? c.index = some e := RouteStore.entry?_eq_some.mpr ⟨n + k, by omega, hek⟩
    refine ⟨e, hentry, .inr ⟨?_, hmade⟩⟩
    refine Classical.byContradiction fun hno => ?_
    obtain ⟨h1, h2⟩ := not_or.mp hno
    have hck : c.index = s.route.first + (n + k) := by omega
    rw [hck] at h1 h2
    have := h.entered.covers (n + k) e (Nat.zero_le _) hek (Nat.not_le.mp h1) (by omega)
    have := h.enough
    omega

end

/-- Settles O24. -/
theorem positionChangeOccupiesAndReleases : Obligations.PositionChangeOccupiesAndReleases := by
  unfold Obligations.PositionChangeOccupiesAndReleases
  intro w front rear hok hf hr s t
  have hs : s.Structured := State.structureOk_iff.mp hok
  obtain ⟨T, new, b, n, h, hover⟩ := Work.positionChange_handedOn hs hf hr
  have hrf := State.rear_le_front hf hr
  have hfirst := hs.route.first_add
  have h : s.HandedOn front rear T new b n t := h
  have hlen (k : Nat) (e : RouteEntry) (he : s.route.entries[k]? = some e) :
      s.route.startOf (s.route.first + k) < s.route.endOf (s.route.first + k) := by
    have hentry := RouteStore.entry?_eq_some.mpr ⟨k, rfl, he⟩
    have := hs.route.length_ge hentry
    rw [RouteStore.endOf_eq hentry]
    omega
  obtain ⟨hframe, hrec⟩ := w.positionChange_frame
  refine ⟨hrec, ?_, fun i e he hlt h12 hreach => ?_, fun c hc hge => ?_, fun c hc => h.reaches hs hc, h.next,
    fun c hc hfresh => h.fresh hs hc hfresh, ⟨n, h.route, fun i hi hin => ?_, fun i e he h12 hend hlast => ?_, ?_, ?_⟩,
    ?_⟩
  · rw [hover, Bool.or_eq_true, h.entered.overrun]
    refine or_congr_right ⟨?_, ?_⟩
    · rintro ⟨k, e, -, he, hlt, hten⟩
      exact ⟨_, e, RouteStore.entry?_eq_some.mpr ⟨k, rfl, he⟩, hlt, fun c hc hi =>
        hten c (hs.claimed.getElem_of_index hc hi)⟩
    · rintro ⟨i, e, he, hlt, hten⟩
      obtain ⟨k, rfl, hk⟩ := RouteStore.entry?_eq_some.mp he
      exact ⟨k, e, Nat.zero_le _, hk, hlt, fun c hc => hten c (List.mem_of_getElem? hc) (hs.claimed.2.1 k c hc).1⟩
  · obtain ⟨k, rfl, hk⟩ := RouteStore.entry?_eq_some.mp he
    obtain ⟨c, hc, hocc⟩ := h.occupied hk hlt (by omega)
    obtain ⟨hi, x, hx, hcell⟩ := h.claimed.2.1 k c hc
    have hnk : n ≤ k := by
      refine Classical.byContradiction fun hkn => ?_
      have := h.endOf_le (Nat.not_le.mp hkn)
      have := h.stays
      omega
    refine ⟨c, ?_, hi, ?_, hocc⟩
    · rw [h.list]
      refine List.mem_append_left _ (List.mem_of_getElem? (i := k - n) ?_)
      rw [List.getElem?_drop, Nat.add_sub_cancel' hnk]
      exact hc
    · rw [hk] at hx
      cases hx
      exact hcell
  · obtain ⟨k, hk, hi, e, he, -⟩ := hs.claimed.exists_place hc
    rw [hi] at hge
    have hT := h.entered.old k c hk
    rw [if_neg fun hx => absurd hx.2 (Nat.not_lt.mpr hge)] at hT
    have hnk : n ≤ k := by
      refine Classical.byContradiction fun hkn => ?_
      have := h.endOf_le (Nat.not_le.mp hkn)
      have := hlen k e he
      omega
    show c ∈ t.claims.list
    rw [h.list]
    refine List.mem_append_left _ (List.mem_of_getElem? (i := k - n) ?_)
    rw [List.getElem?_drop, Nat.add_sub_cancel' hnk]
    exact hT
  · obtain ⟨k, rfl⟩ := Nat.exists_eq_add_of_le hi
    exact h.endOf_le (by omega)
  · obtain ⟨k, rfl, hk⟩ := RouteStore.entry?_eq_some.mp he
    have hkl := (List.getElem?_eq_some_iff.mp hk).1
    have hstart := hlen k e hk
    refine Classical.byContradiction fun hkn => ?_
    obtain hall | hlast' | hmost := h.most
    · have := h.entered.covers k e (Nat.zero_le _) hk (by omega) (by omega)
      omega
    · omega
    · have : s.route.endOf (s.route.first + n) ≤ s.route.endOf (s.route.first + k) := s.route.startOf_mono (by omega)
      omega
  · show t.route.entries ≠ []
    rw [h.route, RouteStore.retire, Ne, List.drop_eq_nil_iff]
    have := h.stays
    omega
  · show t.route.entries.getLast? = _
    rw [h.route, RouteStore.retire, List.getLast?_drop, if_neg (Nat.not_le.mpr h.stays)]
  · show t.pos = s.pos ∧ _
    rw [show t = _ from hframe]
    exact ⟨rfl, rfl, rfl, rfl, rfl, rfl, rfl, rfl, rfl, rfl, rfl, rfl, rfl, rfl⟩

end Sys2Proof.Machine

/-!
PROOF. Events that hand a position change on, in the terms of the statements; the transponder read (R31 to
R35).
-/

namespace Sys2Proof.Machine

/-! ### Raises and hand-ons of states alike -/

theorem State.started_cases {s : State} (hm : s.ctl.mode ≠ .init) (hs : s.pos.start = true) :
    s.stopsOnRaise ∨ s.ctl.mode = .stopped := by
  cases h : s.ctl.mode with
  | init => exact absurd h hm
  | listen => exact .inl (.inr (.inr ⟨h, hs⟩))
  | serving => exact .inl (.inl h)
  | parked => exact .inl (.inr (.inl h))
  | stopped => exact .inr rfl

theorem State.recordCause_ctl_congr {s t : State} (h : t.ctl = s.ctl) (c : Cause) :
    (t.recordCause c).ctl = (s.recordCause c).ctl := by
  rw [State.recordCause_ctl, State.recordCause_ctl, h]

section
variable {w w' : Work} {c : Cause}

theorem Work.raise_claims (hc : c ≠ .startConflict) :
    (w.s.stopsOnRaise → (w.raise c).s.claims = { w.s.claims with list := w.s.reserved })
      ∧ (¬ w.s.stopsOnRaise → (w.raise c).s.claims = w.s.claims) := by
  have hclaims : (w.on (·.recordCause c)).s.claims = w.s.claims := w.s.recordCause_claims c
  refine ⟨fun h => ?_, fun h => ?_⟩
  · rw [Work.raise_of_stops hc h, Work.enterStopped_claims, hclaims]
    rfl
  · rw [Work.raise_of_stays h, hclaims]

/-- A raise reads no more than what is alike, and the Mode Controller. -/
theorem State.Alike.raise (hc : c ≠ .startConflict) (h : w.s.Alike w'.s) (hctl : w'.s.ctl = w.s.ctl) :
    (w.raise c).s.Alike (w'.raise c).s ∧ (w'.raise c).s.ctl = (w.raise c).s.ctl := by
  have hstops : w'.s.stopsOnRaise ↔ w.s.stopsOnRaise := by
    rw [State.stopsOnRaise, State.stopsOnRaise, hctl, h.pos]
  have hrec : (w'.s.recordCause c).ctl = (w.s.recordCause c).ctl := State.recordCause_ctl_congr hctl c
  have same : (w'.raise c).s.ctl = (w.raise c).s.ctl ∧ (w'.raise c).s.claims = (w.raise c).s.claims := by
    by_cases hs : w.s.stopsOnRaise
    · rw [(Work.raise_claims hc).1 hs, (Work.raise_claims hc).1 (hstops.mpr hs), h.reserved, h.claims,
        Work.raise_of_stops hc hs, Work.raise_of_stops hc (hstops.mpr hs), Work.enterStopped_ctl, Work.enterStopped_ctl]
      exact ⟨congrArg (fun m : ModeController => { m with mode := .stopped, line := .asserted }) hrec, rfl⟩
    · have hs' := fun hx => hs (hstops.mp hx)
      rw [(Work.raise_claims hc).2 hs, (Work.raise_claims hc).2 hs', h.claims, Work.raise_of_stays hs,
        Work.raise_of_stays hs']
      exact ⟨hrec, rfl⟩
  obtain ⟨hr, hp, hpe, -, hcf, hsame⟩ := State.body_eq_iff.mp (w.raise_body c)
  obtain ⟨hr', hp', hpe', -, hcf', hsame'⟩ := State.body_eq_iff.mp (w'.raise_body c)
  refine ⟨⟨?_, ?_, same.2, ?_, ?_, ?_, congrArg _ same.1, ?_⟩, same.1⟩
  · rw [hr', hr, h.route]
  · rw [hp', hp, h.pos]
  · rw [hpe', hpe, h.peers]
  · rw [hcf', hcf, h.config]
  · rw [hsame'.2.2.2.2.1, hsame.2.2.2.2.1, h.now]
  · rw [Work.raise_auth hc, Work.raise_auth hc, h.overrun]

theorem Work.positionChange_ctl (w : Work) : w.positionChange.s.ctl = w.s.ctl := by
  rw [w.positionChange_frame.1]
  rfl

theorem Work.positionChange_route (w : Work) : ∃ k, w.positionChange.s.route = w.s.route.retire k := by
  unfold Work.positionChange
  split
  · exact ⟨0, rfl⟩
  next front _ =>
    obtain ⟨k, h⟩ := enterUpTo_claims front w.s.route.entries w.s.route.first 0 w.s
    obtain ⟨n, hn⟩ := (enterUpTo front w.s.route.entries w.s.route.first 0 w.s).1.release_spec
    refine ⟨n, ?_⟩
    dsimp only
    rw [State.claimAhead_eq, hn, h]
    rfl

end

/-! ### The end of an event that hands a position change on (R25, R116, R118) -/

section
variable {w w' : Work} {t before : State}

/-- What the hand-on leads to, at the end of the event. -/
theorem Work.settledInto_of_closes (hrec : w.recompute = true)
    (hm : w.overrunEntry = true → w.s.stopsOnRaise ∨ w.s.ctl.mode = .stopped)
    (h : (w.settle before).s.Closes t) : w.settledInto t := by
  obtain ⟨hroute, -⟩ := State.body_eq_iff.mp (Work.settle_closes_body h)
  have hres := Work.settle_closes_reserved h
  rw [Work.settle_of_recompute hrec] at h
  refine ⟨hroute, hres, fun ho => Work.recomputedInto_of_closes ho h, fun ho => ?_⟩
  obtain ⟨hhas, hauth, hstop⟩ := Work.entered_of_closes ho h
  exact ⟨hhas, hstop (hm ho), hauth⟩

theorem State.Alike.settledInto (h : w.s.Alike w'.s) (hctl : w'.s.ctl = w.s.ctl)
    (ho : w'.overrunEntry = w.overrunEntry) (hs : w.settledInto t) : w'.settledInto t := by
  obtain ⟨hroute, hres, hsettled, hover⟩ := hs
  refine ⟨hroute.trans h.route.symm, hres.trans h.reserved.symm, fun hw => h.recomputedInto hctl (hsettled (ho ▸ hw)),
    fun hw => ?_⟩
  obtain ⟨h1, h2, h3⟩ := hover (ho ▸ hw)
  exact ⟨h1, h2, h3.trans (by rw [h.restingAuthority])⟩

/-- The marks at the end of an event are those of its work. -/
theorem Work.settle_closes_marks (h : (w.settle before).s.Closes t) :
    t.ctl.markPositionLost = w.s.ctl.markPositionLost ∧ t.ctl.markOffRoute = w.s.ctl.markOffRoute := by
  obtain ⟨m, l, k, f, hctl⟩ := w.settle_ctl before
  rw [h.ctl, hctl]
  exact ⟨rfl, rfl⟩

end

/-! ### A transponder read (R31) -/

section
variable {w : Work} {cell : CellId} {p : RoutePos} (hs : w.s.pos.start = true) (hp : w.s.pos.pos = some p)
include hs hp

theorem Work.read_noCell : w.read noCell = w := by
  unfold Work.read
  rw [hs, hp]
  rfl

theorem Work.read_live {j : Nat} (hc : cell ≠ noCell) (hj : w.s.route.indexOfCell cell = some j) : w.read cell =
    if p.index ≤ j + 1 ∧ j ≤ p.index + 2 then w.fix cell p j
    else w.on fun s => (s.count .offWindowReads).setPos { s.pos with offRoute := 0 } := by
  unfold Work.read
  rw [hs, hp]
  dsimp only
  rw [if_neg hc, hj]

theorem Work.read_unknown (hc : cell ≠ noCell) (h : ∀ e ∈ w.s.route.entries, e.cell ≠ cell) :
    w.read cell = w.offRouteRead := by
  have hnone : w.s.route.indexOfCell cell = none := by
    unfold RouteStore.indexOfCell
    rw [List.findIdx?_eq_none_iff.mpr fun e he => beq_eq_false_iff_ne.mpr (h e he)]
    rfl
  unfold Work.read
  rw [hs, hp]
  dsimp only
  rw [if_neg hc, hnone]

end

theorem Work.read_waiting {w : Work} (hs : w.s.pos.start = false) (cell : CellId) :
    w.read cell = w.on fun s => s.count .ignoredReads := by
  unfold Work.read
  rw [hs]

/-! ### A fix (R32, R33) -/

section
variable (s : State) (cell : CellId) (p : RoutePos) (j : Nat)

/-- How far a fix at entry `j` corrects the position. -/
def State.fixCorrection : Int := (s.route.startOf j : Int) - (s.route.distance p : Int)

/-- Does a fix at entry `j` correct the position backwards, with the rear of the vehicle before the route? -/
def State.fixLost : Bool :=
  decide (s.fixCorrection p j < 0) && decide ((s.route.startOf j : Int) < (s.config.params.vehicleLength : Int))

/-- The state with the position fixed, missed fixes and a disagreement reported. -/
def State.fixed : State :=
  let s1 := if j = p.index + 2 then s.count .missedFixes else s
  let s2 := if s.pos.u + s.config.params.fixTol < (s.fixCorrection p j).natAbs then
      (s1.latch .fixDisagreement).queueNotice (.fixDisagreement cell (s.fixCorrection p j) s.pos.u)
    else s1
  s2.setPos { s2.pos with pos := some ⟨j, 0⟩, base := 0, sinceFix := 0, offRoute := 0 }

/-- The position fixed, and POSITION_LOST raised where the fix loses it. -/
def State.fixRaised : Work :=
  if s.fixLost p j then (Work.begin (s.fixed cell p j)).raise .positionLost else Work.begin (s.fixed cell p j)

/-- The marks that a fix sets (R145). -/
def State.fixMarks (m : ModeController) : ModeController :=
  if s.fixLost p j then m.satisfy .offRoute else (m.satisfy .positionLost).satisfy .offRoute

theorem Work.fix_begin : (Work.begin s).fix cell p j
    = (s.fixRaised cell p j).positionChange.on fun t => t.setCtl (s.fixMarks p j t.ctl) := rfl

theorem State.fixed_eq : ∃ l, s.fixed cell p j
    = (s.setLink l).setPos { s.pos with pos := some ⟨j, 0⟩, base := 0, sinceFix := 0, offRoute := 0 } := by
  have hcount : ∃ l, (if j = p.index + 2 then s.count .missedFixes else s) = s.setLink l := by
    split
    · exact ⟨_, rfl⟩
    · exact ⟨s.link, rfl⟩
  obtain ⟨l, hl⟩ := hcount
  unfold State.fixed
  dsimp only
  rw [hl]
  split
  · obtain ⟨l', hl'⟩ := ((s.setLink l).latch .fixDisagreement).queueNotice_link
      (.fixDisagreement cell (s.fixCorrection p j) s.pos.u)
    rw [hl']
    exact ⟨l', rfl⟩
  · exact ⟨l, rfl⟩

theorem State.fixed_counters : (s.fixed cell p j).link.counters
    = if j = p.index + 2 then s.link.counters.bump .missedFixes else s.link.counters := by
  have hcount : (if j = p.index + 2 then s.count .missedFixes else s).link.counters
      = if j = p.index + 2 then s.link.counters.bump .missedFixes else s.link.counters := by
    split <;> rfl
  unfold State.fixed
  dsimp only
  rw [State.setPos_link, ← hcount]
  split
  · exact (State.queueNotice_grows _ _).counters
  · rfl

/-- A disagreement is latched and noticed (R32). -/
theorem State.fixed_disagreement (h : s.pos.u + s.config.params.fixTol < (s.fixCorrection p j).natAbs) :
    (s.fixed cell p j).link.latched.fixDisagreement = true
      ∧ s.queued (s.fixed cell p j).link (.fixDisagreement cell (s.fixCorrection p j) s.pos.u) := by
  unfold State.fixed
  dsimp only
  rw [State.setPos_link, if_pos h]
  generalize hs1 : (if j = p.index + 2 then s.count .missedFixes else s) = s1
  have hnotices : s1.link.notices = s.link.notices := by
    rw [← hs1]
    split <;> rfl
  have hgrows := (s1.latch .fixDisagreement).queueNotice_grows (.fixDisagreement cell (s.fixCorrection p j) s.pos.u)
  refine ⟨by rw [hgrows.latched]; rfl, ?_⟩
  have hq := (s1.latch .fixDisagreement).queueNotice_queued (.fixDisagreement cell (s.fixCorrection p j) s.pos.u)
  unfold State.queued at hq ⊢
  rw [← hnotices]
  exact hq

end

end Sys2Proof.Machine

/-!
PROOF. The transponder read (R31 to R35).
-/

namespace Sys2Proof.Machine

/-! ### Causes stay in the set but at a RESUME (R143, R147) -/

theorem CauseSet.has_add_of_has {k : CauseSet} {d : Cause} (h : k.has d = true) (c : Cause) :
    (k.add c).has d = true := by
  cases c <;> cases d <;> simp_all [CauseSet.has, CauseSet.add]

theorem State.recordCause_keeps {s : State} {d : Cause} (h : s.ctl.causes.has d = true) (c : Cause) :
    (s.recordCause c).ctl.causes.has d = true := by
  have hclear : (s.ctl.clearMark c).causes = s.ctl.causes := by cases c <;> rfl
  rw [State.recordCause_ctl]
  split
  · exact (congrArg (·.has d) hclear).trans h
  · exact CauseSet.has_add_of_has h c

section
variable {w : Work} {c d : Cause}

theorem Work.raise_keeps (hc : c ≠ .startConflict) (h : w.s.ctl.causes.has d = true) :
    (w.raise c).s.ctl.causes.has d = true := by
  obtain ⟨m, l, hctl, -⟩ := Work.raise_ctl (w := w) hc
  rw [hctl]
  exact State.recordCause_keeps h c

theorem Work.recomputeNow_keeps (h : w.s.ctl.causes.has d = true) : w.recomputeNow.s.ctl.causes.has d = true := by
  cases ho : w.overrunEntry with
  | true =>
    rw [Work.recomputeNow_entry ho]
    exact Work.raise_keeps (w := w.on fun s => s.setAuth { s.auth with overrun := true }) nofun h
  | false =>
    by_cases hf : w.s.ctl.mode = .serving → w.s.fits
    · rw [Work.recomputeNow_of_fits ho hf]
      exact h
    · obtain ⟨hm, hf⟩ := Classical.not_imp.mp hf
      rw [(Work.recomputeNow_of_overrun ho hm hf).1]
      exact Work.raise_keeps (w := w.compute.on fun s => s.setAuth { s.auth with overrun := true }) nofun h

theorem Work.settle_closes_keeps {before t : State} (hd : w.s.ctl.causes.has d = true)
    (h : (w.settle before).s.Closes t) : t.ctl.causes.has d = true := by
  rw [h.ctl]
  unfold Work.settle
  split
  · exact Work.recomputeNow_keeps hd
  · exact hd

theorem Work.raise_not_init (hc : c ≠ .startConflict) (h : w.s.ctl.mode ≠ .init) : (w.raise c).s.ctl.mode ≠ .init := by
  by_cases hs : w.s.stopsOnRaise
  · rw [(Work.raise_stopped hc hs).1]
    nofun
  · rw [Work.raise_stays_mode hs]
    exact h

theorem State.Alike.setCtl {s t : State} (h : s.Alike t) {m m' : ModeController} (hm : m'.mode = m.mode) :
    (s.setCtl m).Alike (t.setCtl m') :=
  ⟨h.route, h.pos, h.claims, h.peers, h.config, h.now, hm, h.overrun⟩

theorem Work.positionChange_rest (w : Work) : w.positionChange.s.link = w.s.link ∧ w.positionChange.s.pos = w.s.pos
    ∧ w.positionChange.s.peers = w.s.peers ∧ w.positionChange.s.beacon = w.s.beacon
    ∧ w.positionChange.s.config = w.s.config ∧ w.s.sameOutside w.positionChange.s := by
  rw [w.positionChange_frame.1]
  exact ⟨rfl, rfl, rfl, rfl, rfl, rfl, rfl, rfl, rfl, rfl, rfl, rfl⟩

/-- A raise clears the mark of its own cause alone (R145). -/
theorem Work.raise_positionLost_marks (w : Work) : (w.raise .positionLost).s.ctl.markPositionLost = false
    ∧ (w.raise .positionLost).s.ctl.markOffRoute = w.s.ctl.markOffRoute := by
  obtain ⟨m, l, hctl, -⟩ := Work.raise_ctl (w := w) (c := .positionLost) nofun
  rw [hctl, State.recordCause_ctl]
  split <;> exact ⟨rfl, rfl⟩

end

/-! ### A fix, to the end of its event -/

section
variable {s : State} {cell : CellId} {p : RoutePos} {j : Nat}

theorem State.fixLost_iff : s.fixLost p j = true ↔
    s.fixCorrection p j < 0 ∧ s.route.startOf j < s.config.params.vehicleLength := by
  rw [State.fixLost, Bool.and_eq_true, decide_eq_true_iff, decide_eq_true_iff, Int.ofNat_lt]

theorem State.fixed_pos (hs : s.pos.start = true) :
    (s.fixed cell p j).pos = ⟨true, some ⟨j, 0⟩, 0, 0, 0, s.pos.speed⟩ := by
  obtain ⟨l, h⟩ := s.fixed_eq cell p j
  rw [h, ← hs]
  rfl

theorem State.fixRaised_body : (s.fixRaised cell p j).s.body = (s.fixed cell p j).body := by
  unfold State.fixRaised
  split
  · exact Work.raise_body _ _
  · rfl

theorem State.fixRaised_grows : (s.fixed cell p j).link.Grows (s.fixRaised cell p j).s.link := by
  unfold State.fixRaised
  split
  · exact Work.raise_grows (Work.begin (s.fixed cell p j)) _
  · exact .refl

theorem State.fixRaised_keeps {c : Cause} (h : s.ctl.causes.has c = true) :
    (s.fixRaised cell p j).s.ctl.causes.has c = true := by
  obtain ⟨l, hf⟩ := s.fixed_eq cell p j
  unfold State.fixRaised
  split
  · exact Work.raise_keeps (w := Work.begin (s.fixed cell p j)) nofun (by rw [hf]; exact h)
  · rw [hf]
    exact h

end

/-- What is left of a state once a fix is taken: its position, and POSITION_LOST where it is lost. -/
def State.fixBase (s taken : State) (p : RoutePos) (j : Nat) : State :=
  if s.fixLost p j then (Work.raise { s := taken } .positionLost).s else taken

section
variable {s : State} {cell : CellId} {p : RoutePos} {j : Nat}

theorem State.fixBase_alike (hs : s.pos.start = true) :
    let taken : State := { s with pos := ⟨true, some ⟨j, 0⟩, 0, 0, 0, s.pos.speed⟩ }
    (s.fixRaised cell p j).s.Alike (s.fixBase taken p j)
      ∧ (s.fixBase taken p j).ctl = (s.fixRaised cell p j).s.ctl := by
  intro taken
  obtain ⟨l, hf⟩ := s.fixed_eq cell p j
  have hpos := State.fixed_pos (cell := cell) (p := p) (j := j) hs
  have h : (s.fixed cell p j).Alike taken := by
    refine ⟨?_, hpos.symm, ?_, ?_, ?_, ?_, ?_, ?_⟩ <;> rw [hf] <;> rfl
  have hctl : taken.ctl = (s.fixed cell p j).ctl := by rw [hf]; rfl
  unfold State.fixBase State.fixRaised
  split
  · exact State.Alike.raise (w := Work.begin (s.fixed cell p j)) (w' := { s := taken }) nofun h hctl
  · exact ⟨h, hctl⟩

/-- The marks of a fix, as one record (R145). -/
theorem State.fixMarks_eq (m : ModeController) : s.fixMarks p j m = { m with
    markOffRoute := m.markOffRoute || m.causes.offRoute
    markPositionLost := m.markPositionLost || (!(s.fixLost p j) && m.causes.positionLost) } := by
  unfold State.fixMarks
  cases s.fixLost p j
  · rfl
  · rw [if_pos rfl, Bool.not_true, Bool.false_and, Bool.or_false]
    rfl

/-- The end of a fix. -/
structure State.FixedInto (s : State) (cell : CellId) (p : RoutePos) (j : Nat) (t : State) : Prop where
  pos : t.pos = ⟨true, some ⟨j, 0⟩, 0, 0, 0, s.pos.speed⟩
  counters : t.link.counters = if j = p.index + 2 then s.link.counters.bump .missedFixes else s.link.counters
  disagrees : s.pos.u + s.config.params.fixTol < (s.fixCorrection p j).natAbs →
    t.link.latched.fixDisagreement = true ∧ s.noticed t (.fixDisagreement cell (s.fixCorrection p j) s.pos.u)
  lost : s.fixLost p j = true → t.ctl.causes.has .positionLost = true ∧ t.ctl.markPositionLost = false
  found : s.fixLost p j = false → s.ctl.causes.positionLost = true → t.ctl.markPositionLost = true
  onRoute : s.ctl.causes.offRoute = true → t.ctl.markOffRoute = true
  settled : (s.fixRaised cell p j).positionChange.on (fun u => u.setCtl (s.fixMarks p j u.ctl)) |>.settledInto t
  rest : t.peers = s.peers ∧ t.beacon = s.beacon ∧ t.config = s.config ∧ s.sameOutside t

theorem State.fixRaised_not_init (hm : s.ctl.mode ≠ .init) : (s.fixRaised cell p j).s.ctl.mode ≠ .init := by
  obtain ⟨l, hf⟩ := s.fixed_eq cell p j
  have hfixed : (Work.begin (s.fixed cell p j)).s.ctl.mode ≠ .init := by
    rw [hf]
    exact hm
  unfold State.fixRaised
  split
  · exact Work.raise_not_init nofun hfixed
  · exact hfixed

theorem State.fixRaised_overrunEntry : (s.fixRaised cell p j).overrunEntry = false := by
  unfold State.fixRaised
  split
  · exact Work.raise_overrunEntry _ _
  · rfl

theorem State.fixRaised_lost (h : s.fixLost p j = true) :
    (s.fixRaised cell p j).s.ctl.causes.has .positionLost = true
      ∧ (s.fixRaised cell p j).s.ctl.markPositionLost = false := by
  unfold State.fixRaised
  rw [if_pos h]
  exact ⟨Work.raise_has nofun, (Work.raise_positionLost_marks _).1⟩

theorem State.fixed_closes (hm : s.ctl.mode ≠ .init) (hs : s.pos.start = true) {before t : State}
    (h : (((Work.begin s).fix cell p j).settle before).s.Closes t) : s.FixedInto cell p j t := by
  rw [Work.fix_begin] at h
  obtain ⟨l, hf⟩ := s.fixed_eq cell p j
  obtain ⟨-, hpos, hpeers, hbeacon, hconfig, hsame⟩ :=
    State.body_eq_iff.mp (State.fixRaised_body (s := s) (cell := cell) (p := p) (j := j))
  obtain ⟨hmlink, hmpos, hmpeers, hmbeacon, hmconfig, hmsame⟩ := (s.fixRaised cell p j).positionChange_rest
  have hctl := Work.positionChange_ctl (s.fixRaised cell p j)
  have hgrows := State.fixRaised_grows (s := s) (cell := cell) (p := p) (j := j)
  rw [← hmlink] at hgrows
  obtain ⟨-, htpos, htpeers, htbeacon, htconfig, htsame⟩ := State.body_eq_iff.mp (Work.settle_closes_body h)
  obtain ⟨hpm, hom⟩ := Work.settle_closes_marks h
  have hmarks : ((s.fixRaised cell p j).positionChange.on fun u => u.setCtl (s.fixMarks p j u.ctl)).s.ctl = _ :=
    State.fixMarks_eq (s.fixRaised cell p j).positionChange.s.ctl
  rw [hmarks, hctl] at hpm hom
  have hin : t.pos = (s.fixed cell p j).pos := htpos.trans (hmpos.trans hpos)
  rw [State.fixed_pos hs] at hin
  refine ⟨hin, ?_, fun hd => ?_, fun hl => ?_, fun hl hk => ?_, fun hk => ?_, ?_, ?_⟩
  · exact (Work.settle_closes_counters h).trans (hgrows.counters.trans (s.fixed_counters cell p j))
  · obtain ⟨hlatched, hqueued⟩ := s.fixed_disagreement cell p j hd
    refine ⟨?_, State.queued.settled (w := (s.fixRaised cell p j).positionChange.on fun u =>
      u.setCtl (s.fixMarks p j u.ctl)) (hqueued.grows hgrows) h rfl⟩
    have hall := (Work.settle_grows ((s.fixRaised cell p j).positionChange.on fun u =>
      u.setCtl (s.fixMarks p j u.ctl)) before).latched
    rw [h.latched, hall]
    show (s.fixRaised cell p j).positionChange.s.link.latched.fixDisagreement = true
    rw [hgrows.latched]
    exact hlatched
  · obtain ⟨hhas, hmark⟩ := State.fixRaised_lost (cell := cell) hl
    refine ⟨Work.settle_closes_keeps ?_ h, ?_⟩
    · rw [hmarks, hctl]
      exact hhas
    · rw [hpm, hl, hmark]
      rfl
  · have hhas := State.fixRaised_keeps (cell := cell) (p := p) (j := j) (c := .positionLost) hk
    rw [hpm, hl]
    exact Bool.or_eq_true_iff.mpr (.inr hhas)
  · have hhas := State.fixRaised_keeps (cell := cell) (p := p) (j := j) (c := .offRoute) hk
    rw [hom]
    exact Bool.or_eq_true_iff.mpr (.inr hhas)
  · refine Work.settledInto_of_closes (s.fixRaised cell p j).positionChange_frame.2 (fun _ => State.started_cases ?_ ?_) h
    · rw [hmarks, hctl]
      exact State.fixRaised_not_init hm
    · rw [← htpos, hin]
  · have hrest : t.peers = (s.fixed cell p j).peers ∧ t.beacon = (s.fixed cell p j).beacon
        ∧ t.config = (s.fixed cell p j).config ∧ (s.fixed cell p j).outside = t.outside :=
      ⟨htpeers.trans (hmpeers.trans hpeers), htbeacon.trans (hmbeacon.trans hbeacon),
        htconfig.trans (hmconfig.trans hconfig), ((State.outside_eq_iff.mpr htsame).trans
          ((State.outside_eq_iff.mpr hmsame).trans (State.outside_eq_iff.mpr hsame))).symm⟩
    rw [hf] at hrest
    exact ⟨hrest.1, hrest.2.1, hrest.2.2.1, State.outside_eq_iff.mp hrest.2.2.2.symm⟩

end

/-! ### An off-route read (R35) -/

theorem Work.offRouteRead_cases (w : Work) :
    (w.s.pos.offRoute = 0 → w.offRouteRead = w.on fun s => s.setPos { s.pos with offRoute := 1 })
      ∧ (w.s.pos.offRoute = 1 →
        w.offRouteRead = (w.on fun s => s.setPos { s.pos with offRoute := 2 }).raise .offRoute)
      ∧ (2 ≤ w.s.pos.offRoute → w.offRouteRead = w) := by
  unfold Work.offRouteRead
  refine ⟨fun h => ?_, fun h => ?_, fun h => ?_⟩
  · rw [if_pos (by omega)]
    simp only [Work.on, h]
  · rw [if_neg (by omega), if_pos (by omega)]
  · rw [if_neg (by omega), if_neg (by omega)]

/-- Settles O55. -/
theorem transponderReadIsSorted : Obligations.TransponderReadIsSorted := by
  unfold Obligations.TransponderReadIsSorted
  intro s cell hh hr hc read same
  have hexec : exec (.transponderRead (readerFrame cell)) s = .next (s.readerBytes (readerFrame cell)) :=
    congrArg Host.Outcome.next (State.ifDue_of_due _ hh rfl)
  have hevent (hm : s.ctl.mode ≠ .init) : read (s.event fun w => w.read cell) :=
    hexec.trans (congrArg Host.Outcome.next (State.readerBytes_frame hm hr cell))
  have hplain (hm : s.ctl.mode ≠ .init) {u : State} (hu : (Work.begin s).read cell = Work.begin u)
      (hv : u.claimView = s.claimView) (hc : u.noticesComplete) : read u.transmit := by
    rw [← State.event_plain (f := fun w => w.read cell) hu hv hc]
    exact hevent hm
  refine ⟨fun hm => hexec.trans (congrArg Host.Outcome.next (State.readerBytes_init hm hr cell)), fun hm hs => ?_,
    fun p hm hs hp => ⟨fun hcell => ?_, fun hcell hnone => ?_, fun j hcell hj => ⟨fun hout => ?_, fun hlo hhi => ?_⟩⟩⟩
  · exact hplain hm (Work.read_waiting (w := Work.begin s) hs cell) rfl hc
  · subst hcell
    exact hplain hm (Work.read_noCell hs hp) rfl hc
  · have hread := Work.read_unknown (w := Work.begin s) hs hp hcell hnone
    obtain ⟨h0, h1, h2⟩ := (Work.begin s).offRouteRead_cases
    refine ⟨fun ho => hplain hm (hread.trans (h0 ho)) rfl hc, fun ho => ?_, fun ho => hplain hm (hread.trans (h2 ho)) rfl hc⟩
    have hclose := s.event_closes fun w => w.read cell
    rw [show (Work.begin s).read cell = _ from hread.trans (h1 ho)] at hclose
    generalize hw : (Work.begin s).on (fun s => s.setPos { s.pos with offRoute := 2 }) = w at hclose
    have hover : (w.raise .offRoute).overrunEntry = false := by
      rw [Work.raise_overrunEntry, ← hw]
      rfl
    have hns : (w.raise .offRoute).s.ctl.mode ≠ .serving := Work.raise_not_serving nofun
    have hctl := Work.settle_closes_ctl hover hns hclose
    have hmode : (w.raise .offRoute).s.ctl.mode = .stopped := by
      have hstart := State.started_cases (s := w.s) (by rw [← hw]; exact hm) (by rw [← hw]; exact hs)
      obtain hst | hst := Classical.em w.s.stopsOnRaise
      · exact (Work.raise_stopped (c := .offRoute) nofun hst).1
      · exact (Work.raise_stays_mode hst).trans (hstart.resolve_left hst)
    obtain ⟨hroute, hpos, hpeers, hbeacon, hconfig, hsame⟩ :=
      State.body_eq_iff.mp ((Work.settle_closes_body hclose).trans (w.raise_body .offRoute))
    refine ⟨_, hevent hm, ?_, ?_, ?_, ?_, ?_, ?_, ?_⟩
    · rw [hpos, ← hw]
      rfl
    · rw [hctl]
      exact Work.raise_has nofun
    · rw [hctl]
      exact hmode
    · rw [Work.settle_closes_reserved hclose, Work.raise_reserved (c := .offRoute) nofun, ← hw]
      rfl
    · rw [hroute, ← hw]
      rfl
    · rw [Work.settle_closes_counters hclose, (w.raise_grows _).counters, ← hw]
      rfl
    · subst hw
      exact ⟨hpeers, hbeacon, hconfig, hsame⟩
  · refine hplain hm ((Work.read_live hs hp hcell hj).trans (if_neg ?_)) rfl hc
    omega
  · intro correction disagrees
    have hread : (Work.begin s).read cell = (Work.begin s).fix cell p j :=
      (Work.read_live hs hp hcell hj).trans (if_pos ⟨hlo, hhi⟩)
    have hclose := s.event_closes fun w => w.read cell
    rw [hread] at hclose
    have hfix := State.fixed_closes hm hs hclose
    refine ⟨_, hevent hm, hfix.pos, hfix.counters, hfix.disagrees, fun h1 h2 => hfix.lost (State.fixLost_iff.mpr ⟨h1, h2⟩),
      fun hn => hfix.found (Bool.eq_false_iff.mpr fun hl => hn (State.fixLost_iff.mp hl)), hfix.onRoute, ?_, hfix.rest⟩
    obtain ⟨halike, hctl⟩ := State.fixBase_alike (cell := cell) (p := p) (j := j) hs
    intro taken lost base moved
    have htaken : taken = { s with pos := ⟨true, some ⟨j, 0⟩, 0, 0, 0, s.pos.speed⟩ } :=
      congrArg (fun q : PositionUnit => ({ s with pos := q } : State)) hfix.pos
    have hbase : base = s.fixBase taken p j := by
      unfold State.fixBase
      exact ite_congr (propext State.fixLost_iff.symm) (fun _ => rfl) fun _ => rfl
    have hlost : decide (¬ lost) = !(s.fixLost p j) := by
      have hdec : decide lost = s.fixLost p j := Bool.eq_iff_iff.mpr (decide_eq_true_iff.trans State.fixLost_iff.symm)
      rw [decide_not, hdec]
    rw [← htaken, ← hbase] at halike hctl
    obtain ⟨halike, hover⟩ := halike.positionChange (w' := { s := base }) State.fixRaised_overrunEntry.symm
    have hmctl : moved.s.ctl = (s.fixRaised cell p j).positionChange.s.ctl := by
      rw [Work.positionChange_ctl, Work.positionChange_ctl]
      exact hctl
    have hmarks : { moved.s.ctl with
        markOffRoute := moved.s.ctl.markOffRoute || moved.s.ctl.causes.offRoute
        markPositionLost := moved.s.ctl.markPositionLost || (decide (¬ lost) && moved.s.ctl.causes.positionLost) }
        = s.fixMarks p j (s.fixRaised cell p j).positionChange.s.ctl := by
      rw [← hmctl, State.fixMarks_eq, hlost]
    exact State.Alike.settledInto (w := (s.fixRaised cell p j).positionChange.on fun u =>
      u.setCtl (s.fixMarks p j u.ctl)) (halike.setCtl (congrArg ModeController.mode hmarks)) hmarks hover hfix.settled

end Sys2Proof.Machine

/-!
PROOF. APPEND_ROUTE (R8, R9, R30).
-/

namespace Sys2Proof.Machine

/-! ### The checks of a block (R4, R8) -/

theorem RouteSlot.valid_iff {x : RouteSlot} {b : Bool} : x.valid b = true ↔ 300 ≤ x.length ∧ x.length ≤ 3000
    ∧ (∀ v, x.cap = some v → 50 ≤ v ∧ v ≤ 1000) ∧ (∀ o, x.stop = some o → o < x.length)
    ∧ (x.crane ≠ none → b = true) := by
  obtain ⟨cell, len, cap, stop, crane⟩ := x
  cases cap <;> cases stop <;> cases crane <;> simp [RouteSlot.valid, and_assoc]

/-- No real entry, an entry behind the end of the real ones, or one that R4 does not allow (R8). -/
def State.disordered (s : State) (block : List RouteSlot) : Prop :=
  realSlots block = [] ∨ (∃ x ∈ block.drop (realSlots block).length, x.cell ≠ noCell)
    ∨ ∃ x ∈ realSlots block, ¬ (300 ≤ x.length ∧ x.length ≤ 3000
      ∧ (∀ v, x.cap = some v → 50 ≤ v ∧ v ≤ 1000) ∧ (∀ o, x.stop = some o → o < x.length)
      ∧ (x.crane ≠ none → (s.classOf x.cell).craneSpot = true))

/-- A cell that the block holds twice, or that the route has already (R8). -/
def State.repeats (s : State) (block : List RouteSlot) : Prop :=
  ¬ ((realSlots block).map (·.cell)).Nodup ∨ ∃ x ∈ realSlots block, ∃ e ∈ s.route.entries, e.cell = x.cell

section
variable {s : State} {block : List RouteSlot}

theorem State.disordered_iff : (!blockInOrder block
    || !((realSlots block).all fun x => x.valid (s.classOf x.cell).craneSpot)) = true ↔ s.disordered block := by
  rw [State.disordered, Bool.or_eq_true, Bool.not_eq_true', Bool.not_eq_true', blockInOrder, Bool.and_eq_false_iff,
    List.all_eq_false, List.all_eq_false, or_assoc]
  refine or_congr (by simp) (or_congr (by simp) ?_)
  simp only [RouteSlot.valid_iff]

theorem State.repeats_iff : (!noRepeat ((realSlots block).map (·.cell))
    || ((realSlots block).any fun x => s.route.entries.any fun e => e.cell == x.cell)) = true ↔ s.repeats block := by
  rw [State.repeats, Bool.or_eq_true, Bool.not_eq_true', ← noRepeat_iff, Bool.not_eq_true]
  simp only [List.any_eq_true, beq_iff_eq]

end

/-! ### The carry onto the entries appended (R30) -/

theorem Work.carryAppended_stays {w : Work} (h : ∀ p, w.s.pos.pos = some p → w.s.route.carryOn p = p) :
    w.carryAppended = w.on (·.claimAhead) := by
  unfold Work.carryAppended
  split
  next p hp => exact if_pos (h p hp)
  · rfl

/-- The position carried along the route. -/
def State.carried (u : State) (p : RoutePos) : State := u.setPos { u.pos with pos := some (u.route.carryOn p) }

theorem Work.carryAppended_moves {w : Work} {p : RoutePos} (hp : w.s.pos.pos = some p) (h : w.s.route.carryOn p ≠ p) :
    w.carryAppended
      = (w.on (·.carried p)).positionChange := by
  unfold Work.carryAppended
  rw [hp]
  exact if_neg h

/-- The state once a good block is appended (R9). -/
def State.appended (s : State) (block : List RouteSlot) : State :=
  s.setRoute ⟨s.route.entries ++ (realSlots block).map (·.entry), s.route.nextIndex + (realSlots block).length, .active⟩

theorem State.append_eq {s : State} (h : s.route.state ≠ .truncating) (block : List RouteSlot) :
    s.append block = s.appended block := by
  have hstate : (if s.route.state = .empty then RouteState.active else s.route.state) = .active := by
    split
    · rfl
    next he => cases hs : s.route.state with
      | empty => exact absurd hs he
      | active => rfl
      | truncating => exact absurd hs h
  unfold State.append State.appended
  dsimp only
  rw [hstate]

section
variable {s t : State} {block : List RouteSlot}

/-- The work of an accepted block, before the carry. -/
def State.appendWork (s : State) (block : List RouteSlot) : Work :=
  { Work.begin (s.appended block) with claimsAlone := false }

/-- A block whose carry moves nothing: claiming ahead alone. -/
theorem State.appendWork_stays (hstay : ∀ p, s.pos.pos = some p → (s.appended block).route.carryOn p = p) {before : State}
    (h : ((s.appendWork block).carryAppended.settle before).s.Closes t) :
    t.route = (s.appended block).route ∧ t.pos = s.pos ∧ t.auth = s.auth ∧ t.ctl = s.ctl ∧ t.reserved = s.reserved
      ∧ t.claims = (s.appended block).claimAhead.claims
      ∧ t.peers = s.peers ∧ t.beacon = s.beacon ∧ t.config = s.config ∧ s.sameOutside t := by
  rw [Work.carryAppended_stays hstay, show (((s.appendWork block).on (·.claimAhead)).settle before)
    = (s.appendWork block).on (·.claimAhead) from if_neg nofun] at h
  have hbody : t.body = (s.appended block).body := h.body.trans (State.claimAhead_body _)
  obtain ⟨hroute, hpos, hrest⟩ := State.body_eq_iff.mp hbody
  exact ⟨hroute, hpos, h.auth.trans (State.claimAhead_auth _), h.ctl.trans (State.claimAhead_ctl _),
    h.reserved.trans (State.claimAhead_reserved _), h.claims,
    hrest⟩

theorem Work.positionChange_congr {w w' : Work} (hs : w.s = w'.s) (ho : w.overrunEntry = w'.overrunEntry) :
    w.positionChange.s = w'.positionChange.s ∧ w.positionChange.overrunEntry = w'.positionChange.overrunEntry := by
  unfold Work.positionChange
  rw [hs]
  split
  · exact ⟨hs, ho⟩
  · exact ⟨rfl, congrArg (· || _) ho⟩

/-- A block whose carry moves the position: the position change handed on. -/
theorem State.appendWork_moves {p : RoutePos} (hp : s.pos.pos = some p) (hne : (s.appended block).route.carryOn p ≠ p)
    {before : State} (h : ((s.appendWork block).carryAppended.settle before).s.Closes t) :
    let moved : Work := Work.positionChange { s := (s.appended block).carried p }
    t.pos = { s.pos with pos := some ((s.appended block).route.carryOn p) } ∧ t.route = moved.s.route
      ∧ t.reserved = moved.s.reserved ∧ (moved.overrunEntry = false → moved.s.recomputedInto t)
      ∧ (moved.overrunEntry = true → t.ctl.causes.has .overrun = true
        ∧ t.auth = { moved.s.restingAuthority with overrun := true }
        ∧ (s.ctl.mode ≠ .init → s.pos.start = true → t.ctl.mode = .stopped))
      ∧ t.peers = s.peers ∧ t.beacon = s.beacon ∧ t.config = s.config ∧ s.sameOutside t := by
  intro moved
  let w := (s.appendWork block).on (·.carried p)
  have hwork : (s.appendWork block).carryAppended = w.positionChange := Work.carryAppended_moves hp hne
  rw [hwork] at h
  obtain ⟨hs, ho⟩ := Work.positionChange_congr (w := w) (w' := { s := (s.appended block).carried p }) rfl rfl
  have hbody := Work.settle_closes_body h
  have hres := Work.settle_closes_reserved h
  rw [hs] at hbody hres
  obtain ⟨hroute, hpos, hpeers, hbeacon, hconfig, hsame⟩ := State.body_eq_iff.mp hbody
  obtain ⟨-, hmpos, hmpeers, hmbeacon, hmconfig, hmsame⟩ := Work.positionChange_rest ({ s := (s.appended block).carried p } : Work)
  rw [Work.settle_of_recompute w.positionChange_frame.2] at h
  refine ⟨hpos.trans hmpos, hroute, hres, fun hw => ?_, fun hw => ?_, hpeers.trans hmpeers, hbeacon.trans hmbeacon,
    hconfig.trans hmconfig, State.outside_eq_iff.mp ((State.outside_eq_iff.mpr hsame).trans (State.outside_eq_iff.mpr hmsame))⟩
  · have := Work.recomputedInto_of_closes (ho.trans hw) h
    rw [hs] at this
    exact this
  · obtain ⟨hhas, hauth, hstop⟩ := Work.entered_of_closes (ho.trans hw) h
    rw [hs] at hauth hstop
    refine ⟨hhas, hauth, fun hm hst => hstop (State.started_cases ?_ ?_)⟩
    · rw [Work.positionChange_ctl]
      exact hm
    · rw [hmpos]
      exact hst

end

theorem Work.appendRoute_refused {w : Work} {payload : List Byte} {code : ResultCode}
    (h : w.s.blockRefusal (routeSlots payload) = some code) : w.appendRoute payload = w.answer code := by
  unfold Work.appendRoute
  dsimp only
  rw [h]

theorem Work.appendRoute_accepted {s : State} {payload : List Byte} (hr : s.route.state ≠ .truncating)
    (h : s.blockRefusal (routeSlots payload) = none) :
    (Work.begin s).appendRoute payload = (s.appendWork (routeSlots payload)).carryAppended.answer .done := by
  have h' : (Work.begin s).s.blockRefusal (routeSlots payload) = none := h
  unfold Work.appendRoute
  dsimp only
  rw [h']
  unfold State.appendWork
  rw [← State.append_eq hr]
  rfl

/-- Settles O38. -/
theorem appendRouteChecksAndAppends : Obligations.AppendRouteChecksAndAppends := by
  unfold Obligations.AppendRouteChecksAndAppends
  intro s payload hi h hlen block real refused disordered repeated full
  have hrefused (code : ResultCode) (hc : s.blockRefusal block = some code) : refused code :=
    State.request_answers h hi hlen (Work.appendRoute_refused (w := Work.begin s.taken) hc)
  have hd : (!blockInOrder block || !(real.all fun x => x.valid (s.classOf x.cell).craneSpot)) = true ↔ disordered :=
    State.disordered_iff
  have hr : (!noRepeat (real.map (·.cell)) || (real.any fun x => s.route.entries.any fun e => e.cell == x.cell)) = true
      ↔ repeated := State.repeats_iff
  refine ⟨fun hs => hrefused _ (if_pos hs), fun hs hdis => hrefused _ ((if_neg hs).trans (if_pos (hd.mpr hdis))),
    fun hs hdis hrep => hrefused _ ((if_neg hs).trans ((if_neg (mt hd.mp hdis)).trans (if_pos (hr.mpr hrep)))),
    fun hs hdis hrep hfull => hrefused _ ((if_neg hs).trans ((if_neg (mt hd.mp hdis)).trans
      ((if_neg (mt hr.mp hrep)).trans (if_pos hfull)))),
    fun hs hdis hrep hfull => ?_⟩
  have hnone : s.blockRefusal block = none := (if_neg hs).trans ((if_neg (mt hd.mp hdis)).trans
      ((if_neg (mt hr.mp hrep)).trans (if_neg hfull)))
  have hwork : Work.appendRoute (Work.begin s.taken) payload = (s.taken.appendWork block).carryAppended.answer .done :=
    Work.appendRoute_accepted (s := s.taken) hs hnone
  have hclose := State.request_closes (n := 160) (f := fun w => w.appendRoute payload) h hi hlen
  have hlast := State.request_lastResult (n := 160) (f := fun w => w.appendRoute payload) h hi hlen
  rw [hwork] at hclose hlast
  let route : RouteStore := ⟨s.route.entries ++ real.map fun x =>
    (⟨x.cell, x.length, x.cap, x.stop, x.crane, false⟩ : RouteEntry), s.route.nextIndex + real.length, .active⟩
  by_cases hmove : ∃ p, s.pos.pos = some p ∧ route.carryOn p ≠ p
  · obtain ⟨p, hp, hne⟩ := hmove
    obtain ⟨hpos, hroute, hres, hfree, hover, hrest⟩ := State.appendWork_moves (s := s.taken) hp hne hclose
    let at_ : Work := { s := { s with route := route, pos := { s.pos with pos := some (route.carryOn p) } } }
    have halike : at_.s.Alike ((s.taken.appended block).carried p) :=
      ⟨rfl, rfl, rfl, rfl, rfl, rfl, rfl, rfl⟩
    obtain ⟨k, hk⟩ := Work.positionChange_route ({ s := (s.taken.appended block).carried p } : Work)
    obtain ⟨hmoved, hentry⟩ := halike.positionChange (w := at_) (w' := { s := _ }) rfl
    have hstore := hroute.trans hk
    refine ⟨_, k, rfl, congrArg RouteStore.entries hstore, congrArg RouteStore.nextIndex hstore,
      congrArg RouteStore.state hstore, hlast, ⟨?_, fun hstay => absurd (hstay p hp) hne, fun q hq _ => ?_⟩, hrest⟩
    · rw [hpos, hp]
      rfl
    · obtain rfl : p = q := Option.some.inj (hp.symm.trans hq)
      refine ⟨hroute.trans hmoved.route, hres.trans hmoved.reserved, fun hw => ?_, fun hw => ?_⟩
      · refine hmoved.symm.recomputedInto ?_ (hfree (hentry.trans hw))
        rw [Work.positionChange_ctl, Work.positionChange_ctl]
        rfl
      · obtain ⟨hhas, hauth, hstop⟩ := hover (hentry.trans hw)
        exact ⟨hhas, hauth.trans (congrArg (fun a : AuthorityUnit => { a with overrun := true }) hmoved.restingAuthority), hstop hi⟩
  · have hstay : ∀ p, s.pos.pos = some p → route.carryOn p = p := by
      simpa using hmove
    obtain ⟨hroute, hpos, hauth, hctl, hres, hclaims, hrest⟩ := State.appendWork_stays (s := s.taken) hstay hclose
    have halike : (State.claimAhead { s with route := route }).Alike (s.taken.appended block).claimAhead :=
      State.Alike.claimAhead ⟨rfl, rfl, rfl, rfl, rfl, rfl, rfl, rfl⟩
    refine ⟨_, 0, rfl, congrArg RouteStore.entries hroute, congrArg RouteStore.nextIndex hroute,
      congrArg RouteStore.state hroute, hlast, ⟨?_, fun _ => ⟨rfl, hpos, hauth, hctl, hres, hclaims.trans halike.claims⟩,
      fun p hp hne => absurd (hstay p hp) hne⟩, hrest⟩
    rw [hpos]
    cases hp : s.pos.pos with
    | none => exact congrArg (fun q => { s.pos with pos := q }) hp
    | some p => exact congrArg (fun q => { s.pos with pos := q }) (hp.trans (congrArg some (hstay p hp).symm))

end Sys2Proof.Machine

/-!
PROOF. A DRIVE_REPORT taken: its frame, the echo matched, the issue held back, and the speed (R26, R156, R166,
R167).
-/

namespace Sys2Proof.Machine

/-! ### Within an event no message becomes outstanding (R166) -/

theorem State.configured_outstanding (s : State) (c : ConfigLoader) (rate : Option LinkRate) :
    (s.configured c rate).link.outstanding = s.link.outstanding := by
  cases rate with
  | none => rfl
  | some r =>
    show (State.orderRate _ r).link.outstanding = _
    obtain ⟨-, he⟩ | ⟨-, -, he⟩ | ⟨-, -, he⟩ := State.orderRate_cases
      (s.setConfig { c with ready := true, loading := false }) r <;> rw [he] <;> rfl

theorem Work.enterStopped_outstanding (w : Work) : w.enterStopped.s.link.outstanding ⊆ w.s.link.outstanding := by
  rw [w.enterStopped_link]
  split
  · exact List.nil_subset _
  · exact List.Subset.refl _

theorem State.queueNotice_outstanding (s : State) (n : Notice) :
    (s.queueNotice n).link.outstanding = s.link.outstanding := by
  unfold State.queueNotice
  split <;> rfl

theorem State.recordCause_outstanding (s : State) (c : Cause) :
    (s.recordCause c).link.outstanding = s.link.outstanding := by
  rw [s.recordCause_link]
  split
  · rfl
  · exact s.queueNotice_outstanding _

theorem Work.Stage.outstanding {w w' : Work} (h : w.Stage w') : w'.s.link.outstanding ⊆ w.s.link.outstanding := by
  cases h with
  | edit h =>
    cases h with
    | link h => cases h <;> simp
    | layout h =>
      rw [h.eq]
      exact List.Subset.refl _
    | _ => exact List.Subset.refl _
  | owe hs => rw [hs]; exact List.Subset.refl _
  | stop => exact w.enterStopped_outstanding
  | stopFor c =>
    refine List.Subset.trans (Work.enterStopped_outstanding _) ?_
    show (w.s.recordCause c).link.outstanding ⊆ _
    rw [w.s.recordCause_outstanding]
    exact List.Subset.refl _
  | serve =>
    rw [Work.enterServing_link]
    exact List.Subset.refl _
  | park => exact List.nil_subset _
  | relisten => exact List.Subset.refl _
  | load hl hc rate =>
    show (w.s.configured _ rate).link.outstanding ⊆ _
    rw [State.configured_outstanding]
    exact List.Subset.refl _

theorem Work.Stages.outstanding {w w' : Work} (h : w.Stages w') :
    w'.s.link.outstanding ⊆ w.s.link.outstanding :=
  h.keeps (P := fun u => u.s.link.outstanding ⊆ w.s.link.outstanding) (fun _ _ hs hp => List.Subset.trans hs.outstanding hp)
    (List.Subset.refl _)

theorem State.issueAuthority_outstanding {s : State} {o : Outstanding} (h : o ∈ s.issueAuthority.link.outstanding) :
    o ∈ s.link.outstanding ∨ o.issued = s.now := by
  have hsub : s.link.withdraw.outstanding ⊆ s.link.outstanding := by
    obtain ⟨m, -, hw⟩ | ⟨-, hw⟩ := s.link.withdraw_cases <;> rw [hw]
    · exact List.filter_sublist.subset
    · exact List.Subset.refl _
  obtain hi | ⟨-, hi⟩ := s.issueAuthority_link_cases <;> rw [hi] at h
  · have h : o ∈ (if s.ctl.mode = .serving then s.link.withdraw.outstanding ++ [⟨s.link.authSeq, s.now⟩]
      else s.link.withdraw.outstanding) := h
    split at h
    · obtain h | h := List.mem_append.mp h
      · exact .inl (hsub h)
      · exact .inr (congrArg Outstanding.issued (List.mem_singleton.mp h))
    · exact .inl (hsub h)
  · exact .inl (hsub h)

/-- At the end of an event at most the message issued has become outstanding. -/
theorem Work.close_outstanding {w : Work} {o : Outstanding} (h : o ∈ w.close.transmit.link.outstanding) :
    o ∈ w.s.link.outstanding ∨ o.issued = w.s.now := by
  rw [State.transmit_outstanding] at h
  unfold Work.close at h
  split at h
  · exact State.issueAuthority_outstanding h
  · exact .inl h

/-! ### An issue reads neither the position nor the latched flags (R165) -/

theorem State.issueAuthority_setPos (s : State) (p : PositionUnit) :
    (s.setPos p).issueAuthority = s.issueAuthority.setPos p := by
  unfold State.issueAuthority
  dsimp only
  rw [apply_ite (State.setPos · p), apply_ite (State.setPos · p)]
  rfl

theorem DriveLink.withdraw_latched (l : DriveLink) (f : Latched) :
    ({ l with latched := f } : DriveLink).withdraw = { l.withdraw with latched := f } := by
  unfold DriveLink.withdraw
  dsimp only
  split <;> rfl

theorem State.issueAuthority_latch (s : State) (f : Flag) : (s.latch f).issueAuthority = s.issueAuthority.latch f := by
  have hl : (s.latch f).link.withdraw = { s.link.withdraw with latched := s.link.latched.set f } :=
    s.link.withdraw_latched _
  have hk : s.link.withdraw.latched = s.link.latched := by rw [s.link.withdraw_eq]
  unfold State.issueAuthority
  dsimp only
  rw [hl, ← hk, apply_ite (State.latch · f), apply_ite (State.latch · f)]
  rfl

theorem State.issueAuthority_takeSpeed (s : State) (v : Nat) :
    (s.takeSpeed v).issueAuthority = s.issueAuthority.takeSpeed v := by
  obtain ⟨l, hl⟩ := s.issueAuthority_link
  have hpos : s.issueAuthority.pos = s.pos := by rw [hl]; rfl
  unfold State.takeSpeed
  dsimp only
  rw [hpos]
  split
  · rw [State.issueAuthority_latch, State.issueAuthority_setPos]
  · exact State.issueAuthority_setPos _ _

/-! ### The echo (R167) -/

/-- Is the echo that of a message sent (R167)? -/
def State.echoMatches (s : State) (echo : Byte) : Bool :=
  if s.ctl.mode = .serving then s.link.outstanding.any fun o => o.seq == echo
  else decide (s.link.lastSent = some echo)

theorem State.issuePending_link (s : State) : ∃ l, s.issuePending = s.setLink l ∧ l.counters = s.link.counters := by
  unfold State.issuePending
  split
  · obtain h | ⟨-, h⟩ := (s.setLink { s.link with pendingIssue := false }).issueAuthority_link_cases <;>
      exact ⟨_, h, rfl⟩
  · exact ⟨s.link, rfl, rfl⟩

section
variable {s : State} {echo : Byte}

/-- A matched echo frees its message and the one before it, and a pending issue is carried out (R166, R167). -/
theorem State.matchEcho_freed {rest : List Outstanding} (hm : s.ctl.mode = .serving)
    (h : (∃ o, s.link.outstanding = o :: rest ∧ o.seq = echo)
      ∨ ∃ o o', s.link.outstanding = [o, o'] ∧ rest = [] ∧ o.seq ≠ echo ∧ o'.seq = echo) :
    s.matchEcho echo = (s.setLink { s.link with outstanding := rest }).issuePending := by
  unfold State.matchEcho
  rw [if_pos hm]
  obtain ⟨o, ho, he⟩ | ⟨o, o', ho, rfl, hne, he⟩ := h <;> rw [ho] <;> dsimp only
  · rw [if_pos he]
  · rw [if_neg hne, if_pos (by rw [← he]; simp)]

theorem State.matchEcho_link : ∃ l, s.matchEcho echo = s.setLink l
    ∧ l.counters = (if s.echoMatches echo then s.link.counters else s.link.counters.bump .unmatchedReports)
    ∧ (s.echoMatches echo = false → l.latched.unmatchedReport = true) := by
  have missed (h : s.echoMatches echo = false) : ∃ l, s.unmatched = s.setLink l
      ∧ l.counters = (if s.echoMatches echo then s.link.counters else s.link.counters.bump .unmatchedReports)
      ∧ (s.echoMatches echo = false → l.latched.unmatchedReport = true) := by
    rw [h]
    exact ⟨_, rfl, rfl, fun _ => rfl⟩
  have freed (outs : List Outstanding) (h : s.echoMatches echo = true) :
      ∃ l, (s.setLink { s.link with outstanding := outs }).issuePending = s.setLink l
        ∧ l.counters = (if s.echoMatches echo then s.link.counters else s.link.counters.bump .unmatchedReports)
        ∧ (s.echoMatches echo = false → l.latched.unmatchedReport = true) := by
    obtain ⟨l, hl, hk⟩ := (s.setLink { s.link with outstanding := outs }).issuePending_link
    rw [h]
    exact ⟨l, hl, hk, nofun⟩
  unfold State.matchEcho
  split
  next hm =>
    have hmatch : s.echoMatches echo = s.link.outstanding.any fun o => o.seq == echo := if_pos hm
    split
    next ho => exact missed (hmatch.trans (by rw [ho]; rfl))
    next o rest ho =>
      rw [ho, List.any_cons] at hmatch
      split
      next he => exact freed rest (hmatch.trans (by rw [beq_iff_eq.mpr he]; rfl))
      next hne =>
        split
        next ha => exact freed [] (hmatch.trans (by rw [ha, Bool.or_true]))
        next ha =>
          refine missed (hmatch.trans ?_)
          rw [beq_eq_false_iff_ne.mpr hne, Bool.eq_false_iff.mpr ha]
          rfl
  next hm =>
    have hmatch : s.echoMatches echo = decide (s.link.lastSent = some echo) := if_neg hm
    split
    next he =>
      refine ⟨s.link, rfl, ?_, fun hf => absurd (hf.symm.trans (hmatch.trans (decide_eq_true he))) nofun⟩
      rw [hmatch, decide_eq_true he]
      rfl
    next hne => exact missed (hmatch.trans (decide_eq_false hne))

/-- The state with the echo matched and the speed taken. -/
def State.reported (s : State) (echo : Byte) (v : Nat) : State := (s.matchEcho echo).takeSpeed v

theorem State.reported_eq {v : Nat} : ∃ l, s.reported echo v = (s.setLink l).setPos { s.pos with speed := min 1200 v }
    ∧ l.counters = (if s.echoMatches echo then s.link.counters else s.link.counters.bump .unmatchedReports)
    ∧ (s.echoMatches echo = false → l.latched.unmatchedReport = true)
    ∧ (1200 < v → l.latched.clampedReport = true) := by
  obtain ⟨l, hl, hk, hu⟩ := State.matchEcho_link (s := s) (echo := echo)
  unfold State.reported State.takeSpeed
  dsimp only
  rw [hl]
  split
  · exact ⟨{ l with latched := l.latched.set .clampedReport }, rfl, hk, hu, fun _ => rfl⟩
  next hv => exact ⟨l, rfl, hk, hu, fun h => absurd h hv⟩

end

/-! ### The frame of a report (R156, R180) -/

theorem State.report_taken {s : State} (hh : s.held = false) (hidle : s.linkIdle) (echo d1 d0 v1 v0 : Byte) :
    exec (.driveReport [echo, d1, d0, v1, v0] (crc16 (0x20#8 :: 5#8 :: [echo, d1, d0, v1, v0]))) s
      = .next (s.takeReport echo (d1 ++ d0 : Half).toNat (v1 ++ v0 : Half).toNat) := by
  have hscan := linkScan_frame (f := ⟨0x20#8, [echo, d1, d0, v1, v0]⟩) (Nat.le_add_left 5 245) (fun _ => rfl)
    (linkFrame 0x20#8 [echo, d1, d0, v1, v0]).length []
  rw [List.append_nil, linkScan_no_sync (bytes := []) nofun (linkFrame 0x20#8 [echo, d1, d0, v1, v0]).length
    (Nat.succ_pos _)] at hscan
  rw [State.exec_report hh, show linkFrameWith 0x20#8 [echo, d1, d0, v1, v0] (crc16 (0x20#8 :: 5#8 :: [echo, d1, d0, v1, v0]))
    = linkFrame 0x20#8 [echo, d1, d0, v1, v0] from rfl, State.linkBytes_whole hidle hscan]
  rfl

end Sys2Proof.Machine

/-!
PROOF. A DRIVE_REPORT: the distance carried along the route, and the end of the event (R26 to R29, R60).
-/

namespace Sys2Proof.Machine

/-! ### The end of a report's event (R60) -/

section
variable {s t : State} {echo : Byte} {d v : Nat}

/-- The work of a report. -/
def State.reportWork (s : State) (echo : Byte) (d v : Nat) : Work := (Work.begin (s.reported echo v)).takeDistance d

theorem State.takeReport_eq (hm : s.ctl.mode ≠ .init) : s.takeReport echo d v
    = ((((s.reportWork echo d v).settle s).dropAtRest v).close).transmit := if_neg hm

/-- The end of a report's event, but for the HELD claims that a report at rest in STOPPED drops. -/
theorem Work.dropAtRest_closes {w : Work} (h : t = ((w.dropAtRest v).close).transmit) :
    w.s.Closes { t with claims := w.s.claims } ∧ t.claims = if t.ctl.mode = .stopped ∧ v = 0 then
      { w.s.claims with list := w.s.claims.list.filter fun c => c.state != .held } else w.s.claims := by
  have hclose : (w.dropAtRest v).s.Closes t := h ▸ (Work.close_closes _).transmit
  unfold Work.dropAtRest at hclose
  split at hclose
  next hd =>
    have hmode : t.ctl.mode = .stopped ∧ v = 0 := ⟨(congrArg ModeController.mode hclose.ctl).trans hd.1, hd.2⟩
    refine ⟨?_, hclose.claims.trans (if_pos hmode).symm⟩
    exact ⟨congrArg (fun u : State => { u with claims := w.s.claims }) hclose.rest, hclose.counters, hclose.latched,
      hclose.authTimer, hclose.outstanding, hclose.pending, hclose.notices⟩
  next hd =>
    have hmode : ¬ (t.ctl.mode = .stopped ∧ v = 0) := fun hx =>
      hd ⟨(congrArg ModeController.mode hclose.ctl).symm.trans hx.1, hx.2⟩
    rw [if_neg hmode]
    refine ⟨?_, hclose.claims⟩
    exact ⟨congrArg (fun u : State => { u with claims := w.s.claims }) hclose.rest, hclose.counters, hclose.latched,
      hclose.authTimer, hclose.outstanding, hclose.pending, hclose.notices⟩

/-! ### The distance (R27 to R29) -/

/-- Does an applied distance pass FIX_GAP_MAX (R29)? -/
abbrev State.gapPassed (s : State) (d : Nat) : Prop := s.pos.sinceFix ≤ s.config.params.fixGapMax
  ∧ s.config.params.fixGapMax < min 65535 (s.pos.sinceFix + d)

/-- The position carried by an applied distance, the speed as reported. -/
def State.carriedPos (s : State) (p : RoutePos) (d v : Nat) : PositionUnit :=
  { s.pos with
    speed := min 1200 v
    pos := some (s.route.carryOn ⟨p.index, p.offset + d⟩)
    sinceFix := min 65535 (s.pos.sinceFix + d) }

theorem State.reportWork_idle (h : s.pos.start = false ∨ s.pos.pos = none ∨ d = 0) :
    s.reportWork echo d v = Work.begin (s.reported echo v) := by
  obtain ⟨l, hr, -⟩ := State.reported_eq (s := s) (echo := echo) (v := v)
  have hpos : (Work.begin (s.reported echo v)).s.pos = { s.pos with speed := min 1200 v } := by
    show (s.reported echo v).pos = _
    rw [hr]
    rfl
  unfold State.reportWork Work.takeDistance
  rw [hpos]
  dsimp only
  split
  next p hs hp =>
    obtain h | h | h := h
    · cases h.symm.trans hs
    · cases h.symm.trans hp
    · subst h
      rfl
  · rfl

theorem State.reportWork_over {p : RoutePos} (hs : s.pos.start = true) (hp : s.pos.pos = some p) (hd : 2000 < d) :
    s.reportWork echo d v = (Work.begin (s.reported echo v)).raise .positionLost := by
  obtain ⟨l, hr, -⟩ := State.reported_eq (s := s) (echo := echo) (v := v)
  have hpos : (Work.begin (s.reported echo v)).s.pos = { s.pos with speed := min 1200 v } := by
    show (s.reported echo v).pos = _
    rw [hr]
    rfl
  unfold State.reportWork Work.takeDistance
  rw [hpos]
  dsimp only
  rw [hs, hp]
  exact if_pos hd

theorem State.reportWork_moves {p : RoutePos} (hs : s.pos.start = true) (hp : s.pos.pos = some p) (h0 : 0 < d)
    (hd : d ≤ 2000) : s.reportWork echo d v
      = (if s.gapPassed d then
          (Work.begin ((s.reported echo v).setPos (s.carriedPos p d v))).raise .positionLost
        else Work.begin ((s.reported echo v).setPos (s.carriedPos p d v))).positionChange := by
  obtain ⟨l, hr, -⟩ := State.reported_eq (s := s) (echo := echo) (v := v)
  have hpos : (Work.begin (s.reported echo v)).s.pos = { s.pos with speed := min 1200 v } := by
    show (s.reported echo v).pos = _
    rw [hr]
    rfl
  have happly : (Work.begin (s.reported echo v)).applyDistance p d
      = if s.gapPassed d then
          (Work.begin ((s.reported echo v).setPos (s.carriedPos p d v))).raise .positionLost
        else Work.begin ((s.reported echo v).setPos (s.carriedPos p d v)) := by
    unfold Work.applyDistance
    rw [hr]
    by_cases hg : s.gapPassed d
    · rw [if_pos hg]
      exact if_pos hg
    · rw [if_neg hg]
      exact if_neg hg
  unfold State.reportWork Work.takeDistance
  rw [hpos]
  dsimp only
  rw [hs, hp]
  dsimp only
  have hd : ¬ Config.maxReportDistance < d := Nat.not_lt.mpr hd
  rw [if_neg hd, if_neg (by omega), happly]

theorem Work.takeDistance_rest (w : Work) (d : Nat) : w.s.link.Grows (w.takeDistance d).s.link
    ∧ (w.takeDistance d).s.peers = w.s.peers ∧ (w.takeDistance d).s.beacon = w.s.beacon
    ∧ (w.takeDistance d).s.config = w.s.config ∧ w.s.sameOutside (w.takeDistance d).s := by
  have raised (u : Work) : u.s.link.Grows (u.raise .positionLost).s.link
      ∧ (u.raise .positionLost).s.peers = u.s.peers ∧ (u.raise .positionLost).s.beacon = u.s.beacon
      ∧ (u.raise .positionLost).s.config = u.s.config ∧ u.s.sameOutside (u.raise .positionLost).s :=
    ⟨u.raise_grows _, (State.body_eq_iff.mp (u.raise_body .positionLost)).2.2⟩
  have same : w.s.link.Grows w.s.link ∧ w.s.peers = w.s.peers ∧ w.s.beacon = w.s.beacon ∧ w.s.config = w.s.config
      ∧ w.s.sameOutside w.s := ⟨.refl, rfl, rfl, rfl, rfl, rfl, rfl, rfl, rfl, rfl, rfl⟩
  unfold Work.takeDistance
  split
  next p _ _ =>
    split
    · exact raised w
    · split
      · exact same
      · obtain ⟨hlink, -, hpeers, hbeacon, hconfig, hsame⟩ := (w.applyDistance p d).positionChange_rest
        rw [hlink, hpeers, hbeacon, hconfig]
        have happly : w.s.link.Grows (w.applyDistance p d).s.link ∧ (w.applyDistance p d).s.peers = w.s.peers
            ∧ (w.applyDistance p d).s.beacon = w.s.beacon ∧ (w.applyDistance p d).s.config = w.s.config
            ∧ w.s.sameOutside (w.applyDistance p d).s := by
          unfold Work.applyDistance
          dsimp only
          split
          · exact raised (w.on fun s => s.setPos { s.pos with
              pos := some (s.route.carryOn ⟨p.index, p.offset + d⟩)
              sinceFix := satAdd Config.saturation w.s.pos.sinceFix d })
          · exact same
        obtain ⟨h1, h2, h3, h4, h5⟩ := happly
        exact ⟨h1, h2, h3, h4, State.outside_eq_iff.mp
          ((State.outside_eq_iff.mpr hsame).trans (State.outside_eq_iff.mpr h5))⟩
  · exact same

/-- The position after a report. -/
def State.reportedPos (s : State) (d v : Nat) : PositionUnit :=
  { s.pos with
    speed := min 1200 v
    pos :=
      match s.pos.start, s.pos.pos with
      | true, some p =>
        if 2000 < d ∨ d = 0 then some p
        else some (s.route.carryOn ⟨p.index, p.offset + d⟩)
      | _, x => x
    sinceFix :=
      if s.pos.start = true ∧ s.pos.pos ≠ none ∧ d ≤ 2000 ∧ d ≠ 0 then
        min 65535 (s.pos.sinceFix + d)
      else s.pos.sinceFix }

theorem State.reportedPos_moved {p : RoutePos} (hs : s.pos.start = true) (hp : s.pos.pos = some p) (h0 : 0 < d)
    (hd : d ≤ 2000) : s.reportedPos d v = s.carriedPos p d v := by
  have hboth : s.pos.start = true ∧ s.pos.pos ≠ none ∧ d ≤ 2000 ∧ d ≠ 0 := ⟨hs, by rw [hp]; nofun, hd, by omega⟩
  unfold State.reportedPos State.carriedPos
  rw [if_pos hboth, hs, hp]
  dsimp only
  rw [if_neg (by omega)]

theorem State.reportedPos_stays (h : s.pos.start = false ∨ s.pos.pos = none ∨ d = 0 ∨ 2000 < d) :
    s.reportedPos d v = { s.pos with speed := min 1200 v } := by
  have hnot : ¬ (s.pos.start = true ∧ s.pos.pos ≠ none ∧ d ≤ 2000 ∧ d ≠ 0) := by
    rintro ⟨h1, h2, h3, h4⟩
    obtain h | h | h := h
    · cases h1.symm.trans h
    · exact h2 h
    · omega
  unfold State.reportedPos
  rw [if_neg hnot]
  cases hs : s.pos.start with
  | false => rfl
  | true =>
    cases hp : s.pos.pos with
    | none => exact congrArg (fun q => { s.pos with speed := min 1200 v, pos := q }) hp.symm
    | some p =>
      have hd : 2000 < d ∨ d = 0 := by
        obtain h | h | h | h := h
        · cases hs.symm.trans h
        · cases hp.symm.trans h
        · exact .inr h
        · exact .inl h
      dsimp only
      rw [if_pos hd]
      exact congrArg (fun q => { s.pos with speed := min 1200 v, pos := q }) hp.symm

/-- POSITION_LOST after start, the station not in INIT, is a stop (R29, R144). -/
theorem Work.raise_positionLost_stops {w : Work} (hm : w.s.ctl.mode ≠ .init) (hs : w.s.pos.start = true) :
    (w.raise .positionLost).s.ctl.mode = .stopped ∧ (w.raise .positionLost).s.ctl.causes.has .positionLost = true
      ∧ (w.raise .positionLost).s.ctl.markPositionLost = false := by
  refine ⟨?_, Work.raise_has nofun, w.raise_positionLost_marks.1⟩
  obtain hst | hst := Classical.em w.s.stopsOnRaise
  · exact (Work.raise_stopped (c := .positionLost) nofun hst).1
  · exact (Work.raise_stays_mode hst).trans ((State.started_cases hm hs).resolve_left hst)

end

/-! ### The end of a report -/

section
variable {s u : State} {echo : Byte} {d v : Nat}
variable (h : ((s.reportWork echo d v).settle s).s.Closes u)
include h

/-- A report that applies no distance and loses nothing changes no more than speed and echo. -/
theorem State.reported_idle (hi : s.pos.start = false ∨ s.pos.pos = none ∨ d = 0) :
    u.pos = s.reportedPos d v ∧ u.route = s.route ∧ u.reserved = s.reserved ∧ u.ctl = s.ctl ∧ u.auth = s.auth := by
  obtain ⟨l, hr, -⟩ := State.reported_eq (s := s) (echo := echo) (v := v)
  rw [State.reportWork_idle hi, Work.settle_begin (by rw [hr]; rfl)] at h
  obtain ⟨hroute, hpos, -⟩ := State.body_eq_iff.mp h.body
  refine ⟨?_, hroute.trans ?_, h.reserved.trans ?_, h.ctl.trans ?_, h.auth.trans ?_⟩
  · rw [State.reportedPos_stays (hi.imp_right (Or.imp_right .inl))]
    refine hpos.trans ?_
    show (s.reported echo v).pos = _
    rw [hr]
    rfl
  all_goals
    show _ = _
    unfold Work.begin
    rw [hr]
    rfl

/-- A distance beyond what a report may carry moves nothing and raises POSITION_LOST (R27). -/
theorem State.reported_over {p : RoutePos} (hm : s.ctl.mode ≠ .init) (hs : s.pos.start = true) (hp : s.pos.pos = some p)
    (hd : 2000 < d) : u.pos = s.reportedPos d v ∧ u.route = s.route ∧ u.reserved = s.reserved
      ∧ u.ctl.mode = .stopped ∧ u.ctl.causes.has .positionLost = true ∧ u.ctl.markPositionLost = false := by
  obtain ⟨l, hr, -⟩ := State.reported_eq (s := s) (echo := echo) (v := v)
  rw [State.reportWork_over hs hp hd] at h
  obtain ⟨hmode, hhas, hmark⟩ := Work.raise_positionLost_stops (w := Work.begin (s.reported echo v))
    (by show (s.reported echo v).ctl.mode ≠ _; rw [hr]; exact hm) (by show (s.reported echo v).pos.start = _; rw [hr]; exact hs)
  have hctl := Work.settle_closes_ctl ((Work.begin (s.reported echo v)).raise_overrunEntry .positionLost)
    (Work.raise_not_serving nofun) h
  obtain ⟨hroute, hpos, -⟩ := State.body_eq_iff.mp ((Work.settle_closes_body h).trans (Work.raise_body _ _))
  have hres := (Work.settle_closes_reserved h).trans (Work.raise_reserved (c := .positionLost) nofun)
  rw [← hctl] at hmode hhas hmark
  refine ⟨?_, hroute.trans ?_, hres.trans ?_, hmode, hhas, hmark⟩
  · rw [State.reportedPos_stays (.inr (.inr (.inr hd)))]
    refine hpos.trans ?_
    show (s.reported echo v).pos = _
    rw [hr]
    rfl
  all_goals
    unfold Work.begin
    rw [hr]
    rfl

/-- A distance applied: the position change handed on (R25, R28, R29). -/
theorem State.reported_moves {p : RoutePos} (hm : s.ctl.mode ≠ .init) (hs : s.pos.start = true)
    (hp : s.pos.pos = some p) (h0 : 0 < d) (hd : d ≤ 2000) :
    let taken : State := { s with pos := u.pos }
    let base : State := if s.gapPassed d then (Work.raise { s := taken } .positionLost).s else taken
    u.pos = s.reportedPos d v ∧ (Work.positionChange { s := base }).settledInto u
      ∧ (s.gapPassed d → u.ctl.mode = .stopped ∧ u.ctl.causes.has .positionLost = true
        ∧ u.ctl.markPositionLost = false) := by
  intro taken base
  obtain ⟨l, hr, -⟩ := State.reported_eq (s := s) (echo := echo) (v := v)
  rw [State.reportWork_moves hs hp h0 hd] at h
  let carried := Work.begin ((s.reported echo v).setPos (s.carriedPos p d v))
  have hcm : carried.s.ctl.mode ≠ .init := by
    show (s.reported echo v).ctl.mode ≠ _
    rw [hr]
    exact hm
  generalize hw : (if s.gapPassed d then carried.raise .positionLost else carried) = w at h
  have hbody : w.s.body = carried.s.body := by
    rw [← hw]
    split
    · exact carried.raise_body _
    · rfl
  have hpos : u.pos = s.carriedPos p d v :=
    (State.body_eq_iff.mp (Work.settle_closes_body h)).2.1.trans
      (w.positionChange_rest.2.1.trans (State.body_eq_iff.mp hbody).2.1)
  have hentry : w.overrunEntry = false := by
    rw [← hw]
    split
    · exact carried.raise_overrunEntry _
    · rfl
  have htaken : carried.s.Alike taken ∧ taken.ctl = carried.s.ctl := by
    have hcarried : carried.s = (s.setLink l).setPos (s.carriedPos p d v) := by
      show (s.reported echo v).setPos _ = _
      rw [hr]
      rfl
    rw [hcarried]
    exact ⟨⟨rfl, hpos, rfl, rfl, rfl, rfl, rfl, rfl⟩, rfl⟩
  have hbase : w.s.Alike base ∧ base.ctl = w.s.ctl := by
    rw [← hw]
    unfold base
    split
    · exact State.Alike.raise (w' := { s := taken }) nofun htaken.1 htaken.2
    · exact htaken
  have hlost (hg : s.gapPassed d) : w.s.ctl.mode = .stopped ∧ w.s.ctl.causes.has .positionLost = true
      ∧ w.s.ctl.markPositionLost = false := by
    rw [← hw, if_pos hg]
    exact Work.raise_positionLost_stops hcm hs
  have hwm : w.positionChange.s.ctl.mode ≠ .init := by
    rw [w.positionChange_ctl, ← hw]
    split
    · exact Work.raise_not_init nofun hcm
    · exact hcm
  have hinto := Work.settledInto_of_closes w.positionChange_frame.2 (fun _ => State.started_cases hwm (by
    rw [Work.positionChange_pos, (State.body_eq_iff.mp hbody).2.1]
    exact hs)) h
  obtain ⟨halike, hover⟩ := hbase.1.positionChange (w' := { s := base }) hentry.symm
  refine ⟨hpos.trans (State.reportedPos_moved hs hp h0 hd).symm, halike.settledInto ?_ hover hinto, fun hg => ?_⟩
  · rw [Work.positionChange_ctl, Work.positionChange_ctl]
    exact hbase.2
  · obtain ⟨hmode, hhas, hmark⟩ := hlost hg
    rw [← w.positionChange_ctl] at hmode hhas hmark
    refine ⟨?_, Work.settle_closes_keeps hhas h, (Work.settle_closes_marks h).1.trans hmark⟩
    cases ho : w.positionChange.overrunEntry with
    | true => exact (hinto.2.2.2 ho).2.1
    | false =>
      have hctl := ((hinto.2.2.1 ho).1 (by rw [hmode]; nofun)).1
      rw [hctl]
      exact hmode

end

/-- The outstanding messages at the end of a report whose echo is matched (R166, R167). -/
theorem State.reported_outstanding {s : State} {echo : Byte} {d v : Nat} {rest : List Outstanding}
    (hm : s.ctl.mode = .serving) (h : (∃ o, s.link.outstanding = o :: rest ∧ o.seq = echo)
      ∨ ∃ o o', s.link.outstanding = [o, o'] ∧ rest = [] ∧ o.seq ≠ echo ∧ o'.seq = echo) {o : Outstanding}
    (ho : o ∈ (s.takeReport echo d v).link.outstanding) : o ∈ rest ∨ o.issued = s.now := by
  have hinit : s.ctl.mode ≠ .init := by
    rw [hm]
    nofun
  obtain ⟨l, hr, -⟩ := State.reported_eq (s := s) (echo := echo) (v := v)
  have hstages := (Work.stages_takeDistance (Work.begin (s.reported echo v)) d).trans
    (Work.stages_settle s (s.reportWork echo d v))
  have hdrop : (((s.reportWork echo d v).settle s).dropAtRest v).s.link = ((s.reportWork echo d v).settle s).s.link := by
    unfold Work.dropAtRest
    split <;> rfl
  have hnow : (((s.reportWork echo d v).settle s).dropAtRest v).s.now = s.now := by
    refine State.now_of_outside ((Work.dropAtRest_outside _ v).trans (hstages.outside.trans ?_))
    show (s.reported echo v).outside = _
    rw [hr]
    rfl
  rw [State.takeReport_eq hinit] at ho
  obtain ho | ho := Work.close_outstanding ho
  · rw [hdrop] at ho
    have hin : o ∈ (s.reported echo v).link.outstanding := hstages.outstanding ho
    have hspeed : (s.reported echo v).link.outstanding = (s.matchEcho echo).link.outstanding := by
      unfold State.reported State.takeSpeed
      dsimp only
      split <;> rfl
    rw [hspeed, State.matchEcho_freed hm h] at hin
    unfold State.issuePending at hin
    split at hin
    · exact State.issueAuthority_outstanding hin
    · exact .inl hin
  · exact .inr (ho.trans hnow)

/-- A report of no distance whose echo is matched frees its message and carries out the issue held back. -/
theorem State.reported_freed {s : State} {echo : Byte} {v : Nat} {rest : List Outstanding} (hm : s.ctl.mode = .serving)
    (hc : s.noticesComplete) (h : (∃ o, s.link.outstanding = o :: rest ∧ o.seq = echo)
      ∨ ∃ o o', s.link.outstanding = [o, o'] ∧ rest = [] ∧ o.seq ≠ echo ∧ o'.seq = echo) :
    let freed : State := { s with
      pos := { s.pos with speed := min 1200 v }
      link := { s.link with
        outstanding := rest
        pendingIssue := false
        latched := { s.link.latched with
          clampedReport := s.link.latched.clampedReport || decide (1200 < v) } } }
    s.takeReport echo 0 v = State.transmit (if s.link.pendingIssue then freed.issueAuthority else freed) := by
  intro freed
  have hinit : s.ctl.mode ≠ .init := by
    rw [hm]
    nofun
  have hfreed : (s.setLink { s.link with outstanding := rest, pendingIssue := false }).takeSpeed v = freed := by
    unfold State.takeSpeed freed
    dsimp only
    split
    next hv =>
      rw [decide_eq_true (p := 1200 < v) hv, Bool.or_true]
      rfl
    next hv =>
      rw [decide_eq_false (p := 1200 < v) hv, Bool.or_false]
      rfl
  have hreported : s.reported echo v = if s.link.pendingIssue then freed.issueAuthority else freed := by
    rw [State.reported, State.matchEcho_freed hm h, ← hfreed, State.issueAuthority_takeSpeed, State.issuePending]
    by_cases hp : s.link.pendingIssue = true
    · rw [if_pos hp]
      exact congrArg (State.takeSpeed · v) (if_pos hp)
    · have hsame : s.setLink { s.link with outstanding := rest }
          = s.setLink { s.link with outstanding := rest, pendingIssue := false } := by
        rw [← Bool.eq_false_iff.mpr hp]
      rw [if_neg hp, ← hsame]
      exact congrArg (State.takeSpeed · v) (if_neg hp)
  have hcomplete : (s.reported echo v).noticesComplete := by
    rw [hreported]
    split
    · exact State.issueAuthority_noticesComplete hc
    · exact hc
  have hmode : (s.reported echo v).ctl.mode ≠ .stopped := by
    obtain ⟨l, hr, -⟩ := State.reported_eq (s := s) (echo := echo) (v := v)
    rw [hr]
    exact fun hx => absurd (hm.symm.trans hx) nofun
  have hview : (s.reported echo v).claimView = s.claimView := by
    obtain ⟨l, hr, -⟩ := State.reported_eq (s := s) (echo := echo) (v := v)
    rw [hr]
    rfl
  rw [State.takeReport_eq hinit, State.reportWork_idle (.inr (.inr rfl)), Work.settle_begin hview]
  have hdrop : (Work.begin (s.reported echo v)).dropAtRest v = Work.begin (s.reported echo v) :=
    if_neg fun hx => hmode hx.1
  rw [hdrop, Work.close_of_complete hcomplete, ← hreported]
  rfl

/-- Settles O34. -/
theorem driveReportMovesPosition : Obligations.DriveReportMovesPosition := by
  unfold Obligations.DriveReportMovesPosition
  refine ⟨fun r p e hok he => ?_, fun s echo d1 d0 v1 v0 hh hidle => ?_⟩
  · obtain ⟨k, hk, hke⟩ := RouteStore.entry?_eq_some.mp he
    obtain ⟨hholds, hdist, hle⟩ := hok.carryOn_spec hk (List.getElem?_eq_some_iff.mp hke).1
    obtain ⟨j, e', hj, hje, hend⟩ := RouteStore.holds_iff.mp hholds
    exact ⟨e', RouteStore.entry?_eq_some.mpr ⟨j, hj, hje⟩, hle, hdist, hend⟩
  intro payload crc d v matched
  have htaken : exec (.driveReport payload crc) s = .next (s.takeReport echo d v) :=
    State.report_taken hh hidle echo d1 d0 v1 v0
  refine ⟨fun hi => htaken.trans (congrArg Host.Outcome.next (if_pos hi)), fun hm => ⟨_, htaken, ?_⟩⟩
  obtain ⟨hclose, hclaims⟩ := Work.dropAtRest_closes (State.takeReport_eq (echo := echo) (d := d) (v := v) hm)
  have hout := fun (rest : List Outstanding) o => State.reported_outstanding (s := s) (echo := echo) (d := d) (v := v)
    (rest := rest) (o := o)
  have hfreed := fun (rest : List Outstanding) => State.reported_freed (s := s) (echo := echo) (v := v) (rest := rest)
  generalize ht : s.takeReport echo d v = t at hclose hclaims hout ⊢
  obtain ⟨l, hr, hcounters, hunmatched, hclamped⟩ := State.reported_eq (s := s) (echo := echo) (v := v)
  obtain ⟨hgrows, hpeers, hbeacon, hconfig, hsame⟩ := Work.takeDistance_rest (Work.begin (s.reported echo v)) d
  have hlink : (Work.begin (s.reported echo v)).s.link = l := by
    show (s.reported echo v).link = l
    rw [hr]
    rfl
  rw [hlink] at hgrows
  have hgrows' := hgrows.trans (Work.settle_grows (s.reportWork echo d v) s)
  obtain ⟨-, -, htpeers, htbeacon, htconfig, htsame⟩ := State.body_eq_iff.mp (Work.settle_closes_body hclose)
  have hlatched := hclose.latched.trans hgrows'.latched
  have moved (p : RoutePos) (hs : s.pos.start = true) (hp : s.pos.pos = some p) (h0 : 0 < d) (hd : d ≤ 2000) :=
    State.reported_moves hclose hm hs hp h0 hd
  have beyond (p : RoutePos) (hs : s.pos.start = true) (hp : s.pos.pos = some p) (hd : 2000 < d) :=
    State.reported_over hclose hm hs hp hd
  have idle := State.reported_idle hclose
  have hcases : (s.pos.start = false ∨ s.pos.pos = none ∨ d = 0)
      ∨ ∃ p, s.pos.start = true ∧ s.pos.pos = some p ∧ 0 < d := by
    cases hs : s.pos.start with
    | false => exact .inl (.inl rfl)
    | true =>
      cases hp : s.pos.pos with
      | none => exact .inl (.inr (.inl rfl))
      | some p =>
        obtain hd | hd := Nat.eq_zero_or_pos d
        · exact .inl (.inr (.inr hd))
        · exact .inr ⟨p, rfl, rfl, hd⟩
  obtain ⟨hrpeers, hrbeacon, hrconfig, hroutside⟩ : (Work.begin (s.reported echo v)).s.peers = s.peers
      ∧ (Work.begin (s.reported echo v)).s.beacon = s.beacon ∧ (Work.begin (s.reported echo v)).s.config = s.config
      ∧ (Work.begin (s.reported echo v)).s.outside = s.outside := by
    unfold Work.begin
    rw [hr]
    exact ⟨rfl, rfl, rfl, rfl⟩
  let u : State := { t with claims := ((s.reportWork echo d v).settle s).s.claims }
  have hreserved : t.reserved = if t.ctl.mode = .stopped ∧ v = 0 then u.reserved.filter fun c => c.state != .held
      else u.reserved := by
    rw [State.reserved, hclaims]
    split
    · exact filter_swap _ _ _
    · rfl
  refine ⟨?_, hclose.counters.trans (hgrows'.counters.trans hcounters), fun hu => ?_, fun hv => ?_,
    fun hs hp hlost => ?_, fun rest hsv hecho => ⟨fun o => hout rest o hsv hecho, fun hd hc => ?_⟩,
    fun hst hv c hc => ?_, fun hs hp h0 hd => ?_, fun hstay => ?_, htpeers.trans (hpeers.trans hrpeers),
    htbeacon.trans (hbeacon.trans hrbeacon), htconfig.trans (hconfig.trans hrconfig),
    State.outside_eq_iff.mp ((State.outside_eq_iff.mpr htsame).trans ((State.outside_eq_iff.mpr hsame).trans
      hroutside))⟩
  · obtain h | ⟨p, hs, hp, h0⟩ := hcases
    · exact (idle h).1
    · obtain hd | hd := Nat.lt_or_ge 2000 d
      · exact (beyond p hs hp hd).1
      · exact (moved p hs hp h0 hd).1
  · rw [show t.link.latched = _ from hlatched]
    exact hunmatched hu
  · rw [show t.link.latched = _ from hlatched]
    exact hclamped hv
  · obtain ⟨p, hp⟩ := Option.ne_none_iff_exists'.mp hp
    obtain hd | hd := Nat.lt_or_ge 2000 d
    · exact (beyond p hs hp hd).2.2.2
    · obtain hover | ⟨h0, hgap⟩ := hlost
      · exact absurd hover (Nat.not_lt.mpr hd)
      · exact (moved p hs hp h0 hd).2.2 hgap
  · exact ht.symm.trans ((congrArg (fun k => s.takeReport echo k v) hd).trans (hfreed rest hsv hc hecho))
  · rw [hclaims, if_pos ⟨hst, hv⟩] at hc
    exact bne_iff_ne.mp (List.mem_filter.mp hc).2
  · obtain ⟨p, hp⟩ := Option.ne_none_iff_exists'.mp hp
    intro taken lost base
    exact ⟨_, (moved p hs hp h0 hd).2.1, hclaims⟩
  · obtain h | ⟨p, hs, hp, h0⟩ := hcases
    · obtain ⟨-, hroute, hres, hctl, hauth⟩ := idle h
      exact ⟨hroute, hreserved.trans (by rw [hres]), fun _ => ⟨hctl, hauth⟩⟩
    · have hd : 2000 < d := by
        obtain h | h | h | h := hstay
        · cases hs.symm.trans h
        · cases hp.symm.trans h
        · omega
        · exact h
      obtain ⟨-, hroute, hres, -⟩ := beyond p hs hp hd
      refine ⟨hroute, hreserved.trans (by rw [hres]), fun h => ?_⟩
      obtain h | h | h := h
      · cases hs.symm.trans h
      · cases hp.symm.trans h
      · omega

end Sys2Proof.Machine

/-!
PROOF. SET_START (R36, R37, R54, R97, R142).
-/

namespace Sys2Proof.Machine

/-! ### A route with entries retired -/

section
variable {r : RouteStore} {k : Nat} (h : r.ok) (hk : k ≤ r.entries.length)
include h hk

theorem RouteStore.ok.retire_entry (m : Nat) :
    (r.retire k).entry? (r.first + (k + m)) = r.entry? (r.first + (k + m)) := by
  rw [r.entry?_first_add, ← Nat.add_assoc, ← h.retire_first hk, RouteStore.entry?_first_add, RouteStore.retire,
    List.getElem?_drop]

theorem RouteStore.ok.retire_startOf (m : Nat) :
    (r.retire k).startOf (r.first + (k + m)) + lengths (r.entries.take k) = r.startOf (r.first + (k + m)) := by
  rw [r.startOf_first_add, ← Nat.add_assoc, ← h.retire_first hk, RouteStore.startOf_first_add, RouteStore.retire,
    lengths_take_add_drop, Nat.add_comm]

theorem RouteStore.ok.retire_cellAt {x b m : Nat} {e : RouteEntry} (hc : r.cellAt x = some (r.first + (k + m), e, b)) :
    (r.retire k).cellAt (x - lengths (r.entries.take k))
      = some (r.first + (k + m), e, b - lengths (r.entries.take k)) := by
  obtain ⟨he, rfl, hle, hlt⟩ := RouteStore.cellAt_eq_some.mp hc
  have hs := h.retire_startOf hk m
  have he' := (h.retire_entry hk m).trans he
  rw [RouteStore.endOf_eq he] at hlt
  refine RouteStore.cellAt_eq_some.mpr ⟨he', ?_, ?_, ?_⟩
  · omega
  · omega
  · rw [RouteStore.endOf_eq he']
    omega

end

/-- A point short of the end of the route lies in a live entry. -/
theorem RouteStore.exists_cellAt {r : RouteStore} {x : Nat} (h : x < r.total) : ∃ k e, r.entries[k]? = some e
    ∧ r.cellAt x = some (r.first + k, e, r.startOf (r.first + k)) := by
  cases hc : r.cellAt x with
  | none =>
    obtain ht | he := RouteStore.cellAt_eq_none hc
    · omega
    · rw [RouteStore.total, he] at h
      cases h
  | some y =>
    obtain ⟨i, e, b⟩ := y
    obtain ⟨he, rfl, -⟩ := RouteStore.cellAt_eq_some.mp hc
    obtain ⟨k, rfl, hk⟩ := RouteStore.entry?_eq_some.mp he
    exact ⟨k, e, hk, rfl⟩

/-! ### The start claims (R54) -/

/-- An own claim as SET_START makes it (R54). -/
def Claim.startClaim (now : Nat) (c : Claim) : Prop := c.state = .occupied ∧ c.announce = 2 ∧ c.firstAnnounce = none
  ∧ c.heldSince = some now ∧ c.yieldTimer = none ∧ c.holdTimer = none

section
variable {s : State} {rear front a b : Nat} {ea eb : RouteEntry}

/-- The start claims are on the entries from the rear bound's to the front bound's, and the entries before them
are retired. -/
theorem State.startClaims_made (hr : s.rear? = some (rear : Int)) (hf : s.front? = some front)
    (ha : s.route.cellAt rear = some (s.route.first + a, ea, s.route.startOf (s.route.first + a)))
    (hb : s.route.cellAt front = some (s.route.first + b, eb, s.route.startOf (s.route.first + b)))
    (hn : s.claims.list = []) : ∃ k, s.startClaims = (s.setClaims k).setRoute (s.route.retire a)
      ∧ k.list.map (·.index) = List.range' (s.route.first + a) (b + 1 - a)
      ∧ ∀ c ∈ k.list, c.startClaim s.now := by
  obtain ⟨new, hnew, hlen, hspec⟩ := addStartClaims_spec (s.route.first + b + 1 - (s.route.first + a)) a s
  have hbl : b < s.route.entries.length := by
    obtain ⟨k, hk, he⟩ := RouteStore.entry?_eq_some.mp (RouteStore.cellAt_eq_some.mp hb).1
    obtain rfl : b = k := Nat.add_left_cancel hk
    exact (List.getElem?_eq_some_iff.mp he).1
  rw [hn, List.nil_append] at hnew
  refine ⟨{ s.claims with list := new, nextIdentity := s.claims.nextIdentity + new.length }, ?_, ?_, fun c hc => ?_⟩
  · unfold State.startClaims
    rw [hr, hf]
    dsimp only
    rw [Int.toNat_natCast, ha, hb]
    dsimp only
    rw [hnew]
    show State.setRoute _ { s.route with entries := s.route.entries.drop (s.route.first + a - s.route.first) } = _
    rw [Nat.add_sub_cancel_left]
    rfl
  · have hlen' : new.length = b + 1 - a := by omega
    refine List.ext_getElem ?_ fun k h1 h2 => ?_
    · rw [List.length_map, List.length_range', hlen']
    · rw [List.getElem_map, List.getElem_range', Nat.one_mul]
      rw [List.length_map] at h1
      have := (hspec k _ (List.getElem?_eq_getElem h1)).1
      omega
  · obtain ⟨k, hk⟩ := List.mem_iff_getElem?.mp hc
    obtain ⟨-, -, h1, h2, h3, h4, h5, h6, -⟩ := hspec k c hk
    exact ⟨h1, h2, h3, h4, h5, h6⟩

end

/-! ### The checks (R36) -/

section
variable {s : State} {index offset : Nat}

/-- A start position off the route, or too near its end (R36). -/
def State.misplaced (s : State) (index offset : Nat) : Prop := 15 < index
  ∨ (∀ e, s.route.entry? index = some e → e.length ≤ offset)
  ∨ s.route.total ≤ s.route.startOf index + offset + s.config.params.startUnc

theorem State.startRefusal_of_misplaced (hr : s.route.state ≠ .empty) (h : s.misplaced index offset) :
    s.startRefusal index offset = some .badPosition := by
  unfold State.startRefusal
  rw [if_neg hr]
  split
  · rfl
  next e he => exact if_pos (h.imp_right (Or.imp_left fun hall => hall e he))

theorem State.startRefusal_of_placed (hr : s.route.state ≠ .empty) (h : ¬ s.misplaced index offset) :
    s.startRefusal index offset
      = if s.route.startOf index + offset < s.config.params.vehicleLength + s.config.params.startUnc
        then some .rearOutside else none := by
  obtain ⟨h15, hall, hend⟩ : _ ∧ _ ∧ _ := ⟨fun hx => h (.inl hx), fun hx => h (.inr (.inl hx)), fun hx => h (.inr (.inr hx))⟩
  obtain ⟨e, hx⟩ := Classical.not_forall.mp hall
  obtain ⟨he, hoff⟩ := Classical.not_imp.mp hx
  unfold State.startRefusal
  rw [if_neg hr, he]
  exact if_neg (not_or.mpr ⟨h15, not_or.mpr ⟨hoff, hend⟩⟩)

end

/-! ### The test on leaving LISTEN (R142) -/

section
variable {w : Work}

theorem Work.listenExit_twice (w : Work) : w.listenExit.listenExit = w.listenExit := by
  obtain h | h | h := w.listenExit_cases
  · rw [h, h]
  · rw [h]
    refine Work.listenExit_of_idle fun hx => ?_
    rw [w.enterStopped_ctl] at hx
    exact absurd hx.1 nofun
  · rw [h]
    refine Work.listenExit_of_idle fun hx => ?_
    rw [w.enterServing_ctl] at hx
    exact absurd hx.1 nofun

theorem Work.raise_of_listen (hm : w.s.ctl.mode = .listen) (c : Cause) :
    w.raise c = (w.on (·.recordCause c)).listenExit := by
  have hmode : (w.on (·.recordCause c)).s.ctl.mode = .listen := (w.s.recordCause_mode c).trans hm
  unfold Work.raise
  dsimp only
  rw [hmode]

theorem Work.listenExit_reserved (w : Work) : w.listenExit.s.reserved = w.s.reserved := by
  obtain h | h | h := w.listenExit_cases <;> rw [h]
  · exact w.enterStopped_reserved
  · exact State.claimAhead_reserved _

theorem Work.listenExit_causes (w : Work) : w.listenExit.s.ctl.causes = w.s.ctl.causes := by
  obtain h | h | h := w.listenExit_cases <;> rw [h]
  · rw [w.enterStopped_ctl]
  · rw [w.enterServing_ctl]

theorem Work.listenExit_overrunEntry (w : Work) : w.listenExit.overrunEntry = w.overrunEntry := by
  obtain h | h | h := w.listenExit_cases <;> rw [h] <;> rfl

/-- What the test of R142 decides after start. -/
theorem Work.listenExit_outcome (hm : w.s.ctl.mode = .listen) (hs : w.s.pos.start = true) :
    ((∃ c, c ≠ .startConflict ∧ w.s.ctl.causes.has c = true) → w.listenExit = w.enterStopped)
      ∧ ((¬ ∃ c, c ≠ .startConflict ∧ w.s.ctl.causes.has c = true) →
        (w.s.ctl.listenDone = false → w.listenExit = w)
        ∧ (w.s.ctl.listenDone = true → w.s.ctl.causes.startConflict = true → w.listenExit = w.enterStopped)
        ∧ (w.s.ctl.listenDone = true → w.s.ctl.causes.startConflict = false → w.listenExit = w.enterServing)) := by
  refine ⟨fun h => Work.listenExit_of_cause hm hs (CauseSet.beyondStartConflict_iff.mpr h), fun h => ?_⟩
  have hb : ¬ w.s.ctl.causes.beyondStartConflict = true := fun hx => h (CauseSet.beyondStartConflict_iff.mp hx)
  have hexit : w.listenExit = if w.s.ctl.listenDone then
      if w.s.ctl.causes.isEmpty then w.enterServing else w.enterStopped else w :=
    (if_pos ⟨hm, hs⟩).trans (if_neg hb)
  rw [hexit]
  refine ⟨fun hd => by rw [hd]; rfl, fun hd hc => ?_, fun hd hc => ?_⟩
  · rw [if_pos hd, if_neg fun he => ?_]
    exact absurd (hc.symm.trans (CauseSet.isEmpty_iff.mp he .startConflict)) nofun
  · rw [if_pos hd, if_pos]
    refine CauseSet.isEmpty_iff.mpr fun c => ?_
    by_cases hcs : c = .startConflict
    · rw [hcs]
      exact hc
    · exact Bool.eq_false_iff.mpr fun hx => h ⟨c, hcs, hx⟩

/-- A recomputation adds at most OVERRUN to the causes. -/
theorem Work.raiseOverrun_causes (w : Work) : w.raiseOverrun.s.ctl.causes.startConflict = w.s.ctl.causes.startConflict := by
  obtain ⟨m, l, h, -⟩ := Work.raise_ctl (w := w.on fun s => s.setAuth { s.auth with overrun := true })
    (c := .overrun) nofun
  have hctl : w.raiseOverrun.s.ctl = _ := h
  rw [hctl, State.recordCause_ctl]
  split <;> rfl

theorem Work.settle_closes_startConflict {before t : State} (h : (w.settle before).s.Closes t) :
    t.ctl.causes.startConflict = w.s.ctl.causes.startConflict := by
  rw [h.ctl]
  unfold Work.settle
  split
  · cases ho : w.overrunEntry with
    | true =>
      rw [Work.recomputeNow_entry ho]
      exact w.raiseOverrun_causes
    | false =>
      by_cases hf : w.s.ctl.mode = .serving → w.s.fits
      · rw [Work.recomputeNow_of_fits ho hf]
        rfl
      · obtain ⟨hm, hf⟩ := Classical.not_imp.mp hf
        rw [(Work.recomputeNow_of_overrun ho hm hf).1]
        exact w.compute.raiseOverrun_causes
  · rfl

end

/-! ### An accepted SET_START (R37) -/

/-- The start position taken. -/
def State.started (s : State) (index offset : Nat) : State := s.setPos { s.pos with
  start := true, pos := some ⟨index, offset⟩, base := s.config.params.startUnc, sinceFix := 0, offRoute := 0 }

/-- START_CONFLICT recorded where a peer lists the cell of a start claim (R97). -/
def State.conflictRaised (v : State) : State := if v.startConflict then v.recordCause .startConflict else v

/-- The work of an accepted SET_START, before the test of R142. -/
def State.startWork (s : State) (index offset : Nat) : Work :=
  { Work.begin (s.started index offset).startClaims.conflictRaised with recompute := true }

theorem State.start_eq {s : State} (hm : s.ctl.mode = .listen) (index offset : Nat) :
    (Work.begin s).start index offset = (s.startWork index offset).listenExit := by
  have hmode : (s.started index offset).startClaims.ctl.mode = .listen := by
    obtain ⟨k, r, h⟩ := (s.started index offset).startClaims_eq
    rw [h]
    exact hm
  unfold State.startWork State.conflictRaised Work.start
  dsimp only
  by_cases hc : (s.started index offset).startClaims.startConflict = true
  · rw [if_pos hc]
    refine Eq.trans (congrArg Work.listenExit (if_pos hc)) ?_
    rw [Work.raise_of_listen (by exact hmode), Work.listenExit_twice]
    rfl
  · rw [if_neg hc]
    exact congrArg Work.listenExit (if_neg hc)

theorem CauseSet.has_add_startConflict (k : CauseSet) {c : Cause} (h : c ≠ .startConflict) :
    (k.add .startConflict).has c = k.has c := by
  cases c <;> simp_all [CauseSet.has, CauseSet.add]

theorem State.conflictRaised_ctl (v : State) : ∃ k f, v.conflictRaised.ctl = { v.ctl with causes := k, first := f }
    ∧ (∀ c, c ≠ .startConflict → k.has c = v.ctl.causes.has c)
    ∧ k.startConflict = (v.startConflict || v.ctl.causes.startConflict) := by
  unfold State.conflictRaised
  cases hv : v.startConflict
  · exact ⟨_, _, rfl, fun _ _ => rfl, rfl⟩
  · rw [if_pos rfl, State.recordCause_ctl]
    split
    next h => exact ⟨v.ctl.causes, v.ctl.first, rfl, fun _ _ => rfl, h⟩
    · exact ⟨_, _, rfl, fun c hc => CauseSet.has_add_startConflict _ hc, rfl⟩

theorem State.conflictRaised_body (v : State) : v.conflictRaised.body = v.body := by
  unfold State.conflictRaised
  split
  · exact v.recordCause_body _
  · rfl

theorem State.conflictRaised_claims (v : State) : v.conflictRaised.claims = v.claims := by
  unfold State.conflictRaised
  split
  · exact v.recordCause_claims _
  · rfl

theorem State.started_bounds {s : State} {index offset : Nat}
    (h : s.config.params.vehicleLength + s.config.params.startUnc ≤ s.route.startOf index + offset) :
    let u := min 300 s.config.params.startUnc
    (s.started index offset).rear?
        = some ((s.route.startOf index + offset - s.config.params.vehicleLength - u : Nat) : Int)
      ∧ (s.started index offset).front? = some (s.route.startOf index + offset + u) := by
  intro u
  have hu : (s.started index offset).pos.u = u := PositionUnit.u_of_sinceFix_zero rfl
  have hle : u ≤ s.config.params.startUnc := Nat.min_le_right _ _
  refine ⟨?_, ?_⟩
  · show some ((s.route.startOf index + offset : Nat) - (s.config.params.vehicleLength : Int)
      - ((s.started index offset).pos.u : Int)) = _
    rw [hu, Option.some_inj]
    omega
  · show some (s.route.startOf index + offset + (s.started index offset).pos.u) = _
    rw [hu]

end Sys2Proof.Machine

/-!
PROOF. An accepted SET_START, to the end of its event (R37, R54, R97, R142).
-/

namespace Sys2Proof.Machine

/-- The state that an accepted SET_START makes, before the test of R142: the start claims from live entry `a` to
live entry `b`. -/
structure State.StartsAt (s : State) (index offset a b : Nat) (ea eb : RouteEntry) (k : ClaimEngine) (v : State) :
    Prop where
  rear : s.route.cellAt (s.route.startOf index + offset - s.config.params.vehicleLength - min 300 s.config.params.startUnc)
    = some (s.route.first + a, ea, s.route.startOf (s.route.first + a))
  front : s.route.cellAt (s.route.startOf index + offset + min 300 s.config.params.startUnc)
    = some (s.route.first + b, eb, s.route.startOf (s.route.first + b))
  body : v.body = ((s.started index offset).setRoute (s.route.retire a)).body
  claims : v.claims = k
  indices : k.list.map (·.index) = List.range' (s.route.first + a) (b + 1 - a)
  starts : ∀ c ∈ k.list, c.startClaim s.now

section
variable {s : State} {index offset : Nat}

theorem State.startWork_made (hplaced : ¬ s.misplaced index offset)
    (hrear : s.config.params.vehicleLength + s.config.params.startUnc ≤ s.route.startOf index + offset)
    (hn : s.claims.list = []) : ∃ a b ea eb k, s.StartsAt index offset a b ea eb k (s.startWork index offset).s
      ∧ (s.started index offset).startClaims.ctl = s.ctl ∧ (s.started index offset).startClaims.link = s.link
      ∧ (s.started index offset).startClaims.startConflict = k.list.any fun c => s.peers.blocked c.cell := by
  have hend : s.route.startOf index + offset + s.config.params.startUnc < s.route.total :=
    Nat.lt_of_not_le fun hx => hplaced (.inr (.inr hx))
  have hle : min 300 s.config.params.startUnc ≤ s.config.params.startUnc := Nat.min_le_right _ _
  obtain ⟨hr, hf⟩ := State.started_bounds hrear
  obtain ⟨a, ea, -, ha⟩ := RouteStore.exists_cellAt (r := s.route)
    (x := s.route.startOf index + offset - s.config.params.vehicleLength - min 300 s.config.params.startUnc) (by omega)
  obtain ⟨b, eb, -, hb⟩ := RouteStore.exists_cellAt (r := s.route)
    (x := s.route.startOf index + offset + min 300 s.config.params.startUnc) (by omega)
  obtain ⟨k, hk, hidx, hstarts⟩ := State.startClaims_made hr hf ha hb hn
  refine ⟨a, b, ea, eb, k, ⟨ha, hb, (State.conflictRaised_body _).trans (by rw [hk]; rfl),
    (State.conflictRaised_claims _).trans (by rw [hk]; rfl), hidx, hstarts⟩, ?_, ?_, ?_⟩ <;> rw [hk] <;> rfl

variable {a b : Nat} {ea eb : RouteEntry} {k : ClaimEngine} {v : State}

theorem State.StartsAt.reserved (h : s.StartsAt index offset a b ea eb k v) : v.reserved = k.list := by
  rw [State.reserved, h.claims]
  refine List.filter_eq_self.mpr fun c hc => ?_
  rw [(h.starts c hc).1]
  rfl

/-- After an accepted SET_START the front bound lies in the cell of an own claim. -/
theorem State.StartsAt.frontStands (h : s.StartsAt index offset a b ea eb k v) (hok : s.route.ok)
    (hplaced : ¬ s.misplaced index offset)
    (hrear : s.config.params.vehicleLength + s.config.params.startUnc ≤ s.route.startOf index + offset) :
    v.frontStands := by
  obtain ⟨e, he⟩ : ∃ e, s.route.entry? index = some e ∧ offset < e.length := by
    obtain ⟨e, hx⟩ := Classical.not_forall.mp fun hx => hplaced (.inr (.inl hx))
    obtain ⟨he, hoff⟩ := Classical.not_imp.mp hx
    exact ⟨e, he, Nat.lt_of_not_le hoff⟩
  obtain ⟨he, hoff⟩ := he
  obtain ⟨hae, -, hale, -⟩ := RouteStore.cellAt_eq_some.mp h.rear
  obtain ⟨hbe, -, hble, hblt⟩ := RouteStore.cellAt_eq_some.mp h.front
  have place {i : Nat} {x : RouteEntry} (hx : s.route.entry? (s.route.first + i) = some x) : i < s.route.entries.length := by
    rw [s.route.entry?_first_add] at hx
    exact (List.getElem?_eq_some_iff.mp hx).1
  have hal := place hae
  obtain ⟨p, rfl, hp⟩ := RouteStore.entry?_eq_some.mp he
  have hend := RouteStore.endOf_eq he
  have behind {i j : Nat} (hlt : s.route.startOf (s.route.first + i) < s.route.endOf (s.route.first + j)) : i ≤ j := by
    refine Classical.byContradiction fun hx => ?_
    have := s.route.endOf_le_startOf (i := s.route.first + j) (j := s.route.first + i) (by omega)
    omega
  have hap : a ≤ p := behind (by omega)
  have hab : a ≤ b := behind (by omega)
  obtain ⟨p, rfl⟩ := Nat.exists_eq_add_of_le hap
  obtain ⟨m, rfl⟩ := Nat.exists_eq_add_of_le hab
  obtain ⟨hroute, hpos, -⟩ := State.body_eq_iff.mp h.body
  have hroute : v.route = s.route.retire a := hroute
  have hpos : v.pos = (s.started (s.route.first + (a + p)) offset).pos := hpos
  have hstart := hok.retire_startOf (Nat.le_of_lt hal) p
  have hcell := hok.retire_cellAt (Nat.le_of_lt hal) h.front
  have hfront : v.front? = some (s.route.startOf (s.route.first + (a + p)) + offset + min 300 s.config.params.startUnc
      - lengths (s.route.entries.take a)) := by
    have hu : v.pos.u = min 300 s.config.params.startUnc := by
      rw [hpos]
      exact PositionUnit.u_of_sinceFix_zero rfl
    have hp : v.pos.pos = some ⟨s.route.first + (a + p), offset⟩ := by
      rw [hpos]
      rfl
    rw [State.front?, hp, hu, hroute]
    show some ((s.route.retire a).startOf (s.route.first + (a + p)) + offset + _) = _
    rw [Option.some_inj]
    omega
  obtain ⟨c, hc, hi⟩ : ∃ c ∈ k.list, c.index = s.route.first + (a + m) := by
    have hin : s.route.first + (a + m) ∈ k.list.map (·.index) := by
      rw [h.indices, List.mem_range'_1]
      omega
    obtain ⟨c, hc, hi⟩ := List.mem_map.mp hin
    exact ⟨c, hc, hi⟩
  have hclaim : (v.claimAt (s.route.first + (a + m))).isSome = true := by
    rw [State.claimAt, h.claims, List.find?_isSome]
    exact ⟨c, hc, by rw [hi]; exact beq_self_eq_true _⟩
  rw [State.frontStands, hfront, hroute, Option.bind_some, hcell, Option.map_some, hclaim]
  rfl

end

theorem State.conflictRaised_queued {s v : State} (hl : v.link = s.link) (hc : v.startConflict = true)
    (hn : v.ctl.causes.startConflict = false) :
    s.queued v.conflictRaised.link (.stopped .startConflict none) := by
  unfold State.conflictRaised
  rw [if_pos hc]
  have hq := State.recordCause_queued v (c := .startConflict) hn
  unfold State.queued DriveLink.notices at hq ⊢
  rw [← hl]
  exact hq

/-- Settles O41. -/
theorem setStartMakesStartClaims : Obligations.SetStartMakesStartClaims := by
  unfold Obligations.SetStartMakesStartClaims
  intro s i o1 o0 hi h offset x unc refused misplaced
  have checked (hm : s.ctl.mode = .listen) (hs : s.pos.start = false) :
      Work.setStart (Work.begin s.taken) i (half o1 o0) = match s.startRefusal i.toNat offset with
        | some code => (Work.begin s.taken).answer code
        | none => ((Work.begin s.taken).start i.toNat offset).answer .done := by
    refine (if_neg ?_).trans rfl
    rintro (hx | hx)
    · exact hx hm
    · cases hs.symm.trans hx
  have hrefused (hm : s.ctl.mode = .listen) (hs : s.pos.start = false) {code : ResultCode}
      (hc : s.startRefusal i.toNat offset = some code) : refused code :=
    State.request_answers h hi rfl ((checked hm hs).trans (by rw [hc]; rfl))
  refine ⟨fun hm => State.request_answers h hi rfl (if_pos hm), fun hm hs hr => hrefused hm hs (if_pos hr),
    fun hm hs hr hmis => hrefused hm hs (State.startRefusal_of_misplaced hr hmis),
    fun hm hs hr hmis hx => hrefused hm hs ((State.startRefusal_of_placed hr hmis).trans (if_pos hx)),
    fun hm hs hr hmis hx hn => ?_⟩
  intro u
  obtain ⟨a, b, ea, eb, k, hstart, hctl, hlink, hconflict⟩ := State.startWork_made (s := s.taken) hmis hx hn
  have hwork : Work.setStart (Work.begin s.taken) i (half o1 o0)
      = (s.taken.startWork i.toNat offset).listenExit.answer .done := by
    rw [checked hm hs, State.startRefusal_of_placed hr hmis, if_neg (Nat.not_lt.mpr hx),
      State.start_eq (s := s.taken) hm]
  have hclose := State.request_closes (n := 3) (f := fun w => w.setStart i (half o1 o0)) h hi rfl
  have hlast := State.request_lastResult (n := 3) (f := fun w => w.setStart i (half o1 o0)) h hi rfl
  rw [hwork] at hclose hlast
  have hexec : exec (.setStart [i, o1, o0]) s
      = .next (s.request 0x0A#8 3 [i, o1, o0] fun w => w.setStart i (half o1 o0)) := rfl
  generalize s.request 0x0A#8 3 [i, o1, o0] (fun w => w.setStart i (half o1 o0)) = t at *
  generalize hV : s.taken.startWork i.toNat offset = V at hclose hlast hstart
  obtain ⟨ks, f, hvctl, hother, hsc⟩ := State.conflictRaised_ctl (s.taken.started i.toNat offset).startClaims
  have hvctl : V.s.ctl = { s.ctl with causes := ks, first := f } := by
    rw [← hV]
    refine hvctl.trans ?_
    rw [hctl]
    rfl
  rw [hctl] at hother hsc
  obtain ⟨hvroute, hvpos, hvpeers, hvbeacon, hvconfig, hvsame⟩ := State.body_eq_iff.mp hstart.body
  have hmV : V.s.ctl.mode = .listen := by
    rw [hvctl]
    exact hm
  have hsV : V.s.pos.start = true := by
    rw [hvpos]
    rfl
  have hentry : V.listenExit.overrunEntry = false := by
    rw [V.listenExit_overrunEntry, ← hV]
    rfl
  obtain ⟨hstops, hfree⟩ := Work.listenExit_outcome hmV hsV
  have hothers : (∃ c, c ≠ .startConflict ∧ V.s.ctl.causes.has c = true)
      ↔ ∃ c, c ≠ .startConflict ∧ s.ctl.causes.has c = true := by
    refine exists_congr fun c => and_congr_right fun hc => ?_
    rw [hvctl]
    exact iff_of_eq (congrArg (· = true) (hother c hc))
  have hdone : V.s.ctl.listenDone = s.ctl.listenDone := by rw [hvctl]
  have hcause : V.s.ctl.causes.startConflict
      = ((k.list.any fun c => s.peers.blocked c.cell) || s.ctl.causes.startConflict) := by
    rw [hvctl]
    exact hsc.trans (congrArg (· || _) hconflict)
  rw [hothers, hdone] at hfree
  rw [hothers] at hstops
  have stopped (hW : V.listenExit = V.enterStopped) : t.ctl.mode = .stopped := by
    have hx := Work.settle_closes_ctl hentry (by rw [hW]; exact V.enterStopped_not_serving) hclose
    rw [hx, hW, V.enterStopped_ctl]
  have hres : t.reserved = k.list :=
    (Work.settle_closes_reserved hclose).trans (V.listenExit_reserved.trans hstart.reserved)
  have hany : (∃ c ∈ t.reserved, s.peers.blocked c.cell = true) ↔ (k.list.any fun c => s.peers.blocked c.cell) = true := by
    rw [hres, List.any_eq_true]
  have htcause : t.ctl.causes.startConflict = V.s.ctl.causes.startConflict :=
    (Work.settle_closes_startConflict hclose).trans (congrArg CauseSet.startConflict V.listenExit_causes)
  obtain ⟨htroute, htpos, htpeers, htbeacon, htconfig, htsame⟩ :=
    State.body_eq_iff.mp ((Work.settle_closes_body hclose).trans V.listenExit_body)
  refine ⟨t, s.route.first + a, s.route.first + b, ea, eb, _, _, hexec, hstart.rear, hstart.front, htpos.trans hvpos,
    ?_, fun c hc => hstart.starts c (hres ▸ hc), ?_, hlast, ⟨fun hc => ?_, fun hc => ?_, fun hc hn => ?_, fun ho => stopped (hstops ho),
      fun ho hd => ?_, fun ho hd hc => ?_, fun ho hd hc hn hok hv => ?_⟩, htpeers.trans hvpeers, htbeacon.trans hvbeacon,
      htconfig.trans hvconfig, ?_⟩
  · rw [hres, hstart.indices]
    congr 1
    omega
  · rw [htroute, hvroute]
    show { s.route with entries := s.route.entries.drop a } = _
    rw [Nat.add_sub_cancel_left]
  · rw [htcause, hcause, hany.mp hc, Bool.true_or]
  · rw [htcause, hcause, Bool.eq_false_iff.mpr (mt hany.mpr hc), Bool.false_or]
  · have hq := State.conflictRaised_queued hlink (hconflict.trans (hany.mp hc)) (by rw [hctl]; exact hn)
    have hlinkV : V.s.link = (s.taken.started i.toNat offset).startClaims.conflictRaised.link := by rw [← hV]; rfl
    rw [← hlinkV] at hq
    exact State.queued.settled (s := s.taken) (hq.grows V.listenExit_grows) hclose rfl
  · have hW := (hfree ho).1 hd
    have hx := Work.settle_closes_ctl hentry (by rw [hW, hmV]; nofun) hclose
    rw [hx, hW, hmV]
  · refine stopped ((hfree ho).2.1 hd ?_)
    rw [hcause, Bool.or_eq_true]
    exact hc.imp_left hany.mp
  · have hfalse : V.s.ctl.causes.startConflict = false := by
      rw [hcause, Bool.eq_false_iff.mpr (mt hany.mpr hc), hn]
      rfl
    have hW := (hfree ho).2.2 hd hfalse
    rw [hW] at hclose
    have hbegin : V.enterServing = (Work.begin ((V.s.setLink V.s.link).setCtl V.s.ctl)).enterServing := by
      rw [← hV]
      rfl
    rw [hbegin] at hclose
    have hspeed : V.s.pos.speed = 0 := by
      rw [hvpos]
      exact hv
    obtain ⟨new, htctl, hauth, -⟩ := State.serving_stands (State.serving_entered hclose).1 hspeed
      (hstart.frontStands hok hmis hx)
    rw [htctl]
    exact ⟨rfl, rfl, hauth⟩
  · exact State.outside_eq_iff.mp ((State.outside_eq_iff.mpr htsame).trans (State.outside_eq_iff.mpr hvsame))

end Sys2Proof.Machine

/-!
PROOF. Contests with an accepted beacon (R56, R85 to R95): notices in a row, the late contests, and the causes
raised.
-/

namespace Sys2Proof.Machine

/-! ### Notices queued in a row (R164) -/

/-- Notices queued one after another: those with room join the order, and the others are lost. -/
def DriveLink.queueAll (l : DriveLink) (ns : List Notice) : DriveLink :=
  { l with
    outgoing := l.outgoing ++ (ns.take (8 - l.notices.length)).map .notice
    latched := { l.latched with
      noticeOverflow := l.latched.noticeOverflow || decide (8 - l.notices.length < ns.length) } }

section
variable (l : DriveLink)

theorem DriveLink.queueAll_nil : l.queueAll [] = l := by
  unfold DriveLink.queueAll
  rw [List.take_nil, List.map_nil, List.append_nil, List.length_nil, decide_eq_false (Nat.not_lt_zero _), Bool.or_false]

theorem DriveLink.queueAll_notices (ns : List Notice) :
    (l.queueAll ns).notices.length = l.notices.length + min (8 - l.notices.length) ns.length := by
  have hall (xs : List Notice) : (xs.map OutItem.notice).filter (·.isNotice) = xs.map .notice :=
    List.filter_eq_self.mpr fun x hx => by
      obtain ⟨n, -, rfl⟩ := List.mem_map.mp hx
      rfl
  show (List.filter _ (_ ++ _)).length = _
  rw [List.filter_append, List.length_append, hall, List.length_map, List.length_take]
  rfl

variable {l} in
theorem DriveLink.queueAll_of_room {ns : List Notice} {r : Nat} (h : 8 - l.notices.length = r) : l.queueAll ns =
    { l with
      outgoing := l.outgoing ++ (ns.take r).map .notice
      latched := { l.latched with noticeOverflow := l.latched.noticeOverflow || decide (r < ns.length) } } := by
  subst h
  rfl

theorem DriveLink.queueAll_append (xs ys : List Notice) : l.queueAll (xs ++ ys) = (l.queueAll xs).queueAll ys := by
  have hroom : 8 - (l.queueAll xs).notices.length = 8 - l.notices.length - xs.length := by
    rw [l.queueAll_notices]
    omega
  rw [DriveLink.queueAll_of_room hroom]
  unfold DriveLink.queueAll
  dsimp only
  have hover : (l.latched.noticeOverflow || decide (8 - l.notices.length < (xs ++ ys).length))
      = (l.latched.noticeOverflow || decide (8 - l.notices.length < xs.length)
        || decide (8 - l.notices.length - xs.length < ys.length)) := by
    rw [List.length_append, Bool.or_assoc, ← Bool.decide_or]
    congr 1
    exact decide_eq_decide.mpr (by omega)
  rw [hover, List.take_append, List.map_append, List.append_assoc]

end

theorem State.queueNotice_eq (s : State) (n : Notice) : s.queueNotice n = s.setLink (s.link.queueAll [n]) := by
  unfold State.queueNotice DriveLink.queueAll
  split
  next h =>
    have h : s.link.notices.length < 8 := h
    rw [List.take_of_length_le (by rw [List.length_singleton]; omega),
      decide_eq_false (by rw [List.length_singleton]; omega), Bool.or_false]
    rfl
  next h =>
    have h : ¬ s.link.notices.length < 8 := h
    have h0 : 8 - s.link.notices.length = 0 := by omega
    rw [h0, List.take_zero, List.map_nil, List.append_nil, decide_eq_true (p := 0 < [n].length) Nat.zero_lt_one, Bool.or_true]
    rfl

/-! ### The causes that contests raise (R92, R142 to R144) -/

/-- A cause recorded that has no mark to clear (R143). -/
theorem State.recordCause_unmarked (s : State) {c : Cause} (h : s.ctl.clearMark c = s.ctl) : s.recordCause c =
    (s.setCtl { s.ctl with
      causes := s.ctl.causes.add c
      first := if s.ctl.causes.isEmpty then some c else s.ctl.first }).setLink
      (s.link.queueAll (if s.ctl.causes.has c then [] else [.stopped c none])) := by
  have hadd (k : CauseSet) (hk : k.has c = true) : k.add c = k := by
    cases c <;> obtain ⟨k1, k2, k3, k4, k5, k6, k7, k8, k9⟩ := k <;> cases hk <;> rfl
  unfold State.recordCause
  dsimp only
  rw [h]
  by_cases hc : s.ctl.causes.has c = true
  · have hne : s.ctl.causes.isEmpty = false := Bool.eq_false_iff.mpr fun he =>
      absurd (hc.symm.trans (CauseSet.isEmpty_iff.mp he c)) nofun
    rw [if_pos hc, hadd _ hc, hne, DriveLink.queueAll_nil]
    exact if_pos hc
  · rw [if_neg hc]
    refine (if_neg hc).trans ?_
    rw [State.queueNotice_eq]
    rfl

section
variable (w : Work) (collision conflict : Bool)

/-- COLLISION_RISK and START_CONFLICT raised, in this order (R92). -/
def Work.risksRaised : Work :=
  let w' := if collision then w.raise .collisionRisk else w
  if conflict then w'.raise .startConflict else w'

/-- The causes after COLLISION_RISK and START_CONFLICT. -/
def CauseSet.withRisks (k : CauseSet) : CauseSet :=
  { k with collisionRisk := k.collisionRisk || collision, startConflict := k.startConflict || conflict }

/-- Do the causes raised stop the station (R142, R144)? -/
def State.risksStop (s : State) : Bool := (collision || conflict) && decide (s.ctl.mode = .serving
  ∨ s.ctl.mode = .parked ∨ (s.ctl.mode = .listen ∧ s.pos.start = true
    ∧ (s.ctl.listenDone = true ∨ ∃ c ∈ Cause.all, c ≠ .startConflict
      ∧ (s.ctl.causes.withRisks collision conflict).has c = true)))

/-- The state with the causes recorded, before the station stops. -/
def State.risksRecorded (s : State) : State :=
  (s.setCtl { s.ctl with
    causes := s.ctl.causes.withRisks collision conflict
    first := if s.ctl.causes.isEmpty = false then s.ctl.first
      else if collision then some .collisionRisk
      else if conflict then some .startConflict else s.ctl.first }).setLink
    (s.link.queueAll ((if collision && !s.ctl.causes.collisionRisk then [.stopped .collisionRisk none] else [])
      ++ (if conflict && !s.ctl.causes.startConflict then [.stopped .startConflict none] else [])))

end

section
variable (s : State)

theorem State.risksRecorded_none : s.risksRecorded false false = s := by
  have hfirst : (if s.ctl.causes.isEmpty = false then s.ctl.first else s.ctl.first) = s.ctl.first := ite_self _
  have hk : s.ctl.causes.withRisks false false = s.ctl.causes := by
    unfold CauseSet.withRisks
    rw [Bool.or_false, Bool.or_false]
  unfold State.risksRecorded
  rw [hk]
  show (s.setCtl { s.ctl with first := if s.ctl.causes.isEmpty = false then s.ctl.first else s.ctl.first }).setLink
    (s.link.queueAll []) = s
  rw [hfirst, DriveLink.queueAll_nil]
  rfl

theorem first_of_empty (k : CauseSet) (c : Cause) (f : Option Cause) :
    (if k.isEmpty = false then f else some c) = if k.isEmpty then some c else f := by
  cases k.isEmpty <;> rfl

theorem notice_of_new (has : Bool) (n : Notice) : (if (true && !has) = true then [n] else []) = if has then [] else [n] := by
  cases has <;> rfl

theorem State.risksRecorded_collision : s.risksRecorded true false = s.recordCause .collisionRisk := by
  have hk : s.ctl.causes.withRisks true false = s.ctl.causes.add .collisionRisk := by
    unfold CauseSet.withRisks
    rw [Bool.or_true, Bool.or_false]
    rfl
  rw [State.recordCause_unmarked s rfl, ← first_of_empty, ← notice_of_new, ← hk]
  show State.setLink _ (s.link.queueAll (_ ++ [])) = _
  rw [List.append_nil]
  rfl

theorem State.risksRecorded_conflict : s.risksRecorded false true = s.recordCause .startConflict := by
  have hk : s.ctl.causes.withRisks false true = s.ctl.causes.add .startConflict := by
    unfold CauseSet.withRisks
    rw [Bool.or_true, Bool.or_false]
    rfl
  rw [State.recordCause_unmarked s rfl, ← first_of_empty, ← notice_of_new, ← hk]
  rfl

theorem State.risksRecorded_both :
    s.risksRecorded true true = (s.recordCause .collisionRisk).recordCause .startConflict := by
  have hk : s.ctl.causes.withRisks true true = (s.ctl.causes.add .collisionRisk).add .startConflict := by
    unfold CauseSet.withRisks
    rw [Bool.or_true, Bool.or_true]
    rfl
  rw [State.recordCause_unmarked (s.recordCause .collisionRisk) rfl, State.recordCause_unmarked s rfl]
  show _ = State.setLink (State.setCtl _ { s.ctl with
      causes := (s.ctl.causes.add .collisionRisk).add .startConflict
      first := if (s.ctl.causes.add .collisionRisk).isEmpty then _ else if s.ctl.causes.isEmpty then _ else s.ctl.first })
    ((s.link.queueAll _).queueAll (if s.ctl.causes.startConflict then [] else _))
  rw [CauseSet.isEmpty_add, ← DriveLink.queueAll_append, ← first_of_empty, ← notice_of_new, ← notice_of_new, ← hk]
  rfl

end

section
variable {w : Work}

/-- A stop and a cause recorded may change places. -/
theorem Work.enterStopped_recordCause {c : Cause} (h : ∀ m : ModeController, m.clearMark c = m) :
    w.enterStopped.s.recordCause c = (w.on (·.recordCause c)).enterStopped.s := by
  have hmode : (w.s.recordCause c).ctl.mode = w.s.ctl.mode := w.s.recordCause_mode c
  unfold Work.enterStopped
  by_cases hm : w.s.ctl.mode = .serving
  · have hm' : (w.on (·.recordCause c)).s.ctl.mode = .serving := hmode.trans hm
    rw [if_pos hm, if_pos hm']
    dsimp only [Work.on]
    rw [State.recordCause_unmarked _ (h _), State.recordCause_unmarked _ (h _)]
    rfl
  · have hm' : ¬ (w.on (·.recordCause c)).s.ctl.mode = .serving := fun hx => hm (hmode.symm.trans hx)
    rw [if_neg hm, if_neg hm']
    dsimp only [Work.on]
    rw [State.recordCause_unmarked _ (h _), State.recordCause_unmarked _ (h _)]
    rfl

theorem Work.raise_of_stopped (h : w.s.ctl.mode = .stopped) (c : Cause) : w.raise c = w.on (·.recordCause c) := by
  refine Work.raise_of_stays ?_
  rintro (hm | hm | ⟨hm, -⟩) <;> cases h.symm.trans hm

theorem State.risksStop_collision {s : State} (conflict : Bool) : s.risksStop true conflict = true ↔ s.stopsOnRaise := by
  have hc : ∃ c ∈ Cause.all, c ≠ .startConflict ∧ (s.ctl.causes.withRisks true conflict).has c = true :=
    ⟨.collisionRisk, by decide, nofun, Bool.or_true _⟩
  rw [State.risksStop, Bool.true_or, Bool.true_and, decide_eq_true_iff, State.stopsOnRaise]
  simp only [hc, or_true, and_true]

theorem State.risksStop_conflict {s : State} : s.risksStop false true = true ↔ s.ctl.mode = .serving ∨ s.ctl.mode = .parked
    ∨ ((s.ctl.mode = .listen ∧ s.pos.start = true)
      ∧ (s.ctl.listenDone = true ∨ (s.recordCause .startConflict).ctl.causes.beyondStartConflict = true)) := by
  have hk : (s.recordCause .startConflict).ctl.causes = s.ctl.causes.withRisks false true := by
    rw [← State.risksRecorded_conflict]
    rfl
  rw [State.risksStop, Bool.false_or, Bool.true_and, decide_eq_true_iff, hk, CauseSet.beyondStartConflict, List.any_eq_true,
    and_assoc]
  simp only [Bool.and_eq_true, bne_iff_ne]

/-- START_CONFLICT alone raised (R99, R142, R144). -/
theorem Work.raise_startConflict (w : Work) : w.raise .startConflict
    = if w.s.risksStop false true then (w.on (·.recordCause .startConflict)).enterStopped
      else w.on (·.recordCause .startConflict) := by
  have hmode : (w.on (·.recordCause .startConflict)).s.ctl.mode = w.s.ctl.mode := w.s.recordCause_mode _
  have hpos : (w.on (·.recordCause .startConflict)).s.pos = w.s.pos := w.s.recordCause_pos _
  have hdone : (w.on (·.recordCause .startConflict)).s.ctl.listenDone = w.s.ctl.listenDone := by
    show (w.s.recordCause .startConflict).ctl.listenDone = _
    rw [State.recordCause_unmarked w.s rfl]
    rfl
  have stays (h : ¬ w.s.stopsOnRaise) : w.raise .startConflict = if w.s.risksStop false true then
      (w.on (·.recordCause .startConflict)).enterStopped else w.on (·.recordCause .startConflict) := by
    rw [if_neg fun hx => h ?_]
    · exact Work.raise_of_stays h
    · exact (State.risksStop_conflict.mp hx).imp_right (Or.imp_right And.left)
  have stops (h : w.s.ctl.mode = .serving ∨ w.s.ctl.mode = .parked) : w.raise .startConflict
      = if w.s.risksStop false true then
      (w.on (·.recordCause .startConflict)).enterStopped else w.on (·.recordCause .startConflict) := by
    rw [if_pos (State.risksStop_conflict.mpr (h.imp_right Or.inl))]
    unfold Work.raise
    dsimp only
    rw [hmode]
    obtain h | h := h <;> rw [h]
  by_cases hst : w.s.stopsOnRaise
  · obtain h | h | ⟨hm, hs⟩ := hst
    · exact stops (.inl h)
    · exact stops (.inr h)
    · obtain ⟨hothers, hfree⟩ := Work.listenExit_outcome (hmode.trans hm) ((congrArg PositionUnit.start hpos).trans hs)
      rw [Work.raise_of_listen hm]
      by_cases hb : (w.s.recordCause .startConflict).ctl.causes.beyondStartConflict = true
      · rw [if_pos (State.risksStop_conflict.mpr (.inr (.inr ⟨⟨hm, hs⟩, .inr hb⟩)))]
        exact hothers (CauseSet.beyondStartConflict_iff.mp hb)
      · obtain ⟨hwait, hover, -⟩ := hfree (mt CauseSet.beyondStartConflict_iff.mpr hb)
        cases hd : w.s.ctl.listenDone with
        | true =>
          rw [if_pos (State.risksStop_conflict.mpr (.inr (.inr ⟨⟨hm, hs⟩, .inl hd⟩)))]
          exact hover (hdone.trans hd) (w.s.recordCause_has .startConflict)
        | false =>
          rw [if_neg fun hx => ?_]
          · exact hwait (hdone.trans hd)
          · obtain h | h | ⟨-, h | h⟩ := State.risksStop_conflict.mp hx
            · cases hm.symm.trans h
            · cases hm.symm.trans h
            · cases hd.symm.trans h
            · exact hb h
  · exact stays hst

/-- What raising COLLISION_RISK and START_CONFLICT makes of a state (R92, R142 to R144). -/
theorem Work.risksRaised_eq (w : Work) (collision conflict : Bool) : w.risksRaised collision conflict
    = if w.s.risksStop collision conflict then (w.on (·.risksRecorded collision conflict)).enterStopped
      else w.on (·.risksRecorded collision conflict) := by
  have on_congr {f g : State → State} (h : f w.s = g w.s) : w.on f = w.on g := congrArg (fun t => { w with s := t }) h
  cases collision with
  | false =>
    cases conflict with
    | false =>
      rw [on_congr (g := id) w.s.risksRecorded_none]
      rfl
    | true =>
      rw [on_congr (g := (·.recordCause .startConflict)) w.s.risksRecorded_conflict]
      exact w.raise_startConflict
  | true =>
    have hc : Cause.collisionRisk ≠ .startConflict := nofun
    by_cases hst : w.s.stopsOnRaise
    · rw [if_pos ((State.risksStop_collision conflict).mpr hst)]
      cases conflict with
      | false =>
        rw [on_congr (g := (·.recordCause .collisionRisk)) w.s.risksRecorded_collision]
        exact Work.raise_of_stops hc hst
      | true =>
        rw [on_congr (g := fun s => (s.recordCause .collisionRisk).recordCause .startConflict) w.s.risksRecorded_both]
        show (w.raise .collisionRisk).raise .startConflict = _
        rw [Work.raise_of_stops hc hst, Work.raise_of_stopped (by rw [Work.enterStopped_ctl])]
        exact congrArg (fun t => { (w.on (·.recordCause .collisionRisk)).enterStopped with s := t })
          (Work.enterStopped_recordCause (w := w.on (·.recordCause .collisionRisk)) (c := .startConflict) fun _ => rfl)
    · rw [if_neg (mt (State.risksStop_collision conflict).mp hst)]
      cases conflict with
      | false =>
        rw [on_congr (g := (·.recordCause .collisionRisk)) w.s.risksRecorded_collision]
        exact Work.raise_of_stays hst
      | true =>
        rw [on_congr (g := fun s => (s.recordCause .collisionRisk).recordCause .startConflict) w.s.risksRecorded_both]
        show (w.raise .collisionRisk).raise .startConflict = _
        rw [Work.raise_of_stays hst]
        refine Work.raise_of_stays fun hx => hst ?_
        have hmode : (w.on (·.recordCause .collisionRisk)).s.ctl.mode = w.s.ctl.mode := w.s.recordCause_mode _
        have hpos : (w.on (·.recordCause .collisionRisk)).s.pos = w.s.pos := w.s.recordCause_pos _
        unfold State.stopsOnRaise at hx ⊢
        rwa [hmode, hpos] at hx

end

end Sys2Proof.Machine

/-!
PROOF. Stage 1 at an accepted beacon: the outcome of each contest, the yield, and all the contests do (R56, R85 to
R95).
-/

namespace Sys2Proof.Machine

/-! ### Late contests (R89) -/

/-- The notices of the late contests, from rear to front. -/
def lateNotices (e : PeerEntry) (ks : List Contest) : List Notice := ks.filterMap fun k =>
  match k.verdict with
  | .late y => some (.lateContest e.id k.claim.cell k.rival.state y)
  | _ => none

/-- The link with late contests latched and counted. -/
def DriveLink.logged (l : DriveLink) (late : List Notice) : DriveLink :=
  { l with
    latched := { l.latched with lateContest := l.latched.lateContest || !late.isEmpty }
    counters := { l.counters with
      lateContests := if late.isEmpty then l.counters.lateContests
        else min 65535 (l.counters.lateContests + late.length) } }

theorem DriveLink.logged_nil (l : DriveLink) : l.logged [] = l := by
  show { l with latched := { l.latched with lateContest := l.latched.lateContest || false } } = l
  rw [Bool.or_false]

theorem DriveLink.logged_cons (l : DriveLink) (n : Notice) (ns : List Notice) :
    ((l.logged [n]).queueAll [n]).logged ns = (l.logged (n :: ns)).queueAll [n] := by
  have hflag : ((l.latched.lateContest || true) || !ns.isEmpty) = (l.latched.lateContest || true) := by
    rw [Bool.or_true, Bool.true_or]
  have hcount : (if ns.isEmpty then min 65535 (l.counters.lateContests + 1)
      else min 65535 (min 65535 (l.counters.lateContests + 1) + ns.length))
      = min 65535 (l.counters.lateContests + (ns.length + 1)) := by
    cases ns with
    | nil => rfl
    | cons a as =>
      show min 65535 (min 65535 _ + _) = _
      omega
  show { (l.logged [n]).queueAll [n] with
      latched := { ((l.logged [n]).queueAll [n]).latched with
        lateContest := ((l.latched.lateContest || true) || !ns.isEmpty) }
      counters := { ((l.logged [n]).queueAll [n]).counters with
        lateContests := if ns.isEmpty then min 65535 (l.counters.lateContests + 1)
          else min 65535 (min 65535 (l.counters.lateContests + 1) + ns.length) } } = _
  rw [hflag, hcount]
  rfl

theorem State.lateContests_eq (e : PeerEntry) (ks : List Contest) (s : State) :
    ks.foldl (fun t k => t.lateContest e k) s
      = s.setLink ((s.link.logged (lateNotices e ks)).queueAll (lateNotices e ks)) := by
  induction ks generalizing s with
  | nil =>
    show s = s.setLink ((s.link.logged []).queueAll [])
    rw [DriveLink.logged_nil, DriveLink.queueAll_nil]
    rfl
  | cons k ks ih =>
    rw [List.foldl_cons, ih]
    unfold State.lateContest
    split
    next y hy =>
      have hcons : lateNotices e (k :: ks)
          = .lateContest e.id k.claim.cell k.rival.state y :: lateNotices e ks := by
        unfold lateNotices
        rw [List.filterMap_cons, hy]
      have hlogged : ((s.latch .lateContest).count .lateContests).link
          = s.link.logged [.lateContest e.id k.claim.cell k.rival.state y] := by
        show _ = { s.link with
          latched := { s.link.latched with lateContest := s.link.latched.lateContest || true }
          counters := { s.link.counters with lateContests := min 65535 (s.link.counters.lateContests + 1) } }
        rw [Bool.or_true]
        rfl
      rw [hcons, State.queueNotice_eq, hlogged]
      show s.setLink ((((s.link.logged [_]).queueAll [_]).logged _).queueAll _) = _
      rw [DriveLink.logged_cons, ← DriveLink.queueAll_append]
      rfl
    next hn =>
      have hskip : lateNotices e (k :: ks) = lateNotices e ks := by
        unfold lateNotices
        rw [List.filterMap_cons]
        split
        · rfl
        next b hb => exact absurd hb (by split <;> simp_all)
      rw [hskip]

/-! ### The outcomes and a yield (R56, R86 to R91) -/

theorem Verdict.yields_eq (v : Verdict) : v.yields = (v == .late true || v == .yielded) := by
  cases v with
  | late y => cases y <;> rfl
  | _ => rfl

section
variable {s : State} {before after : List Claim} {c : Claim}

theorem State.yieldClaim_listed (h : s.claims.list = before ++ c :: after) (hb : ∀ x ∈ before, x.identity ≠ c.identity) :
    s.yieldClaim c.identity = (s.setClaims { s.claims with
      list := before
      deferral := min 7 (s.claims.deferral + 1)
      backoff := some (s.now + min 7 (s.claims.deferral + 1) * s.config.params.beaconPeriod) }).count .yields := by
  have hany : (s.claims.list.any fun x => x.identity == c.identity) = true :=
    List.any_eq_true.mpr ⟨c, by rw [h]; exact List.mem_append_right _ List.mem_cons_self, beq_self_eq_true _⟩
  have htake : s.claims.list.takeWhile (fun x => x.identity != c.identity) = before := by
    rw [h, List.takeWhile_append_of_pos fun x hx => bne_iff_ne.mpr (hb x hx),
      List.takeWhile_cons_of_neg (by rw [bne_self_eq_false]; nofun), List.append_nil]
  refine (if_pos hany).trans ?_
  rw [htake]
  rfl

theorem State.yieldClaim_left (h : ∀ x ∈ s.claims.list, x.identity ≠ c.identity) : s.yieldClaim c.identity = s :=
  if_neg fun hx => by
    obtain ⟨x, hx, he⟩ := List.any_eq_true.mp hx
    exact h x hx (beq_iff_eq.mp he)

end

theorem State.verdict_cases (s : State) (commit : Option Nat) (e : PeerEntry) (c : Claim) (p : PeerClaim) :
    let beaten := s.outrankedBy s.claims.deferral c e p
    let ahead := s.beyondCommit commit c
    let conflict := s.startTest && c.isStart
    (c.state = .occupied → p.state = .occupied →
      s.verdict commit e c p = if conflict then .startConflict else .collision)
    ∧ (c.state = .occupied → p.state = .held →
        s.verdict commit e c p = if conflict then .startConflict else .none)
    ∧ (c.state = .occupied → p.state = .tentative → s.verdict commit e c p = .none)
    ∧ (c.state = .held → p.state ≠ .tentative →
        s.verdict commit e c p = .late (beaten && ahead))
    ∧ (c.state = .held → p.state = .tentative →
        s.verdict commit e c p = if beaten && ahead then .yielded else .none)
    ∧ (c.state = .tentative →
        s.verdict commit e c p = if beaten then .yielded else .none) := by
  intro beaten ahead conflict
  have reserves (h : p.state ≠ .tentative) : p.reserves = true := bne_iff_ne.mpr h
  have waits (h : p.state = .tentative) : p.reserves = false := by
    rw [PeerClaim.reserves, h]
    rfl
  unfold State.verdict
  dsimp only
  refine ⟨fun hc hp => ?_, fun hc hp => ?_, fun hc hp => ?_, fun hc hp => ?_, fun hc hp => ?_, fun hc => ?_⟩ <;> rw [hc] <;>
    dsimp only
  · rw [reserves (by rw [hp]; nofun), Bool.and_true, if_pos hp]
  · have hno : ¬ p.state = .occupied := by
      rw [hp]
      nofun
    rw [reserves (by rw [hp]; nofun), Bool.and_true, if_neg hno]
  · rw [waits hp, Bool.and_false, if_neg nofun, if_neg (by rw [hp]; nofun)]
  · rw [reserves hp, if_pos rfl]
  · rw [waits hp, if_neg nofun]

/-! ### All that the contests do (R92) -/

section
variable (w : Work) (e : PeerEntry)

/-- Is a claim marked for yielding by the mutual block (R95)? -/
def State.markedIn (s : State) (block : Bool) (e : PeerEntry) (k : Contest) : Bool :=
  block && s.releasedByBlock s.commit? e k

/-- The claims after the one yield of a hand-on (R56, R92). -/
def State.keptAfter (s : State) (yielded : Option Contest) : ClaimEngine := match yielded with
  | none => s.claims
  | some k => { s.claims with
      list := s.claims.list.takeWhile fun c => c.identity != k.claim.identity
      deferral := min 7 (s.claims.deferral + 1)
      backoff := some (s.now + min 7 (s.claims.deferral + 1) * s.config.params.beaconPeriod) }

/-- The link after the late contests, the mutual block and the yield, before their notices. -/
def DriveLink.contested (l : DriveLink) (late : List Notice) (block yielded : Bool) : DriveLink :=
  { l.logged late with
    latched := { (l.logged late).latched with mutualBlock := l.latched.mutualBlock || block }
    counters := { (l.logged late).counters with
      yields := if yielded then min 65535 (l.counters.yields + 1) else l.counters.yields } }

/-- The state before the causes are raised. -/
def State.contested (s : State) (e : PeerEntry) : State :=
  let ks := s.contests s.commit? e
  let block := mutualBlock ks
  let yielded := ks.find? fun k => k.verdict.yields || s.markedIn block e k
  (s.setClaims (s.keptAfter yielded)).setLink ((s.link.contested (lateNotices e ks) block yielded.isSome).queueAll
    (lateNotices e ks ++ if block then [.mutualBlock e.id (ks.any (s.markedIn block e))] else []))

/-- The late contests and the mutual block (R89, R94). -/
theorem State.blockContested (s : State) (late : List Notice) (block : Bool) (n : Notice) :
    (if block then ((s.setLink ((s.link.logged late).queueAll late)).latch .mutualBlock).queueNotice n
      else s.setLink ((s.link.logged late).queueAll late))
    = s.setLink ((s.link.contested late block false).queueAll (late ++ if block then [n] else [])) := by
  cases block with
  | true =>
    have hl : ((s.setLink ((s.link.logged late).queueAll late)).latch .mutualBlock).link
        = (s.link.contested late true false).queueAll late := by
      show _ = DriveLink.queueAll { s.link.logged late with
        latched := { (s.link.logged late).latched with mutualBlock := s.link.latched.mutualBlock || true } } late
      rw [Bool.or_true]
      rfl
    rw [if_pos rfl, State.queueNotice_eq, hl, if_pos rfl, DriveLink.queueAll_append]
    rfl
  | false =>
    have hl : s.link.contested late false false = s.link.logged late := by
      show { s.link.logged late with
        latched := { (s.link.logged late).latched with mutualBlock := s.link.latched.mutualBlock || false } } = _
      rw [Bool.or_false]
      rfl
    rw [if_neg nofun, if_neg nofun, hl, List.append_nil]

theorem State.contests_claim {s : State} {commit : Option Nat} {e : PeerEntry} {k : Contest} (h : k ∈ s.contests commit e) :
    k.claim ∈ s.claims.list := by
  obtain ⟨c, hc, hk⟩ := List.mem_filterMap.mp h
  obtain ⟨p, -, rfl⟩ := Option.map_eq_some_iff.mp hk
  exact hc

/-- The one yield, of the rearmost claim marked (R56, R92). -/
theorem State.contested_yield {s : State} (late ns : List Notice) (block : Bool) {yielded : Option Contest}
    (h : ∀ k, yielded = some k → k.claim ∈ s.claims.list) :
    (match (generalizing := false) yielded with
      | some k => (s.setLink ((s.link.contested late block false).queueAll ns)).yieldClaim k.claim.identity
      | none => s.setLink ((s.link.contested late block false).queueAll ns))
    = (s.setClaims (s.keptAfter yielded)).setLink ((s.link.contested late block yielded.isSome).queueAll ns) := by
  cases yielded with
  | none => rfl
  | some k =>
    have hany : (s.claims.list.any fun c => c.identity == k.claim.identity) = true :=
      List.any_eq_true.mpr ⟨k.claim, h k rfl, beq_self_eq_true _⟩
    exact if_pos hany

theorem Work.contest_eq : w.contest e = ({ w with s := w.s.contested e } : Work).risksRaised
    ((w.s.contests w.s.commit? e).any fun k => k.verdict == .collision)
    ((w.s.contests w.s.commit? e).any fun k => k.verdict == .startConflict) := by
  unfold Work.contest
  dsimp only
  rw [State.lateContests_eq, State.blockContested]
  exact congrArg (fun t : State => Work.risksRaised { w with s := t } _ _) (State.contested_yield _ _ _ fun k hk =>
    State.contests_claim (List.mem_of_find?_eq_some hk))

end

/-- A stop, where it comes about, field by field (R144). -/
def State.stoppedIf (s : State) (b : Bool) : State := { s with
  claims := if b then { s.claims with list := s.claims.list.filter fun c => c.state != .tentative } else s.claims
  ctl := { s.ctl with
    mode := if b then .stopped else s.ctl.mode
    line := if b then .asserted else s.ctl.line }
  link := { s.link with
    outstanding := if b && decide (s.ctl.mode = .serving) then [] else s.link.outstanding
    pendingIssue := s.link.pendingIssue && !(b && decide (s.ctl.mode = .serving)) } }

theorem Work.stopped_if (w : Work) (b : Bool) : (if b then w.enterStopped else w).s = w.s.stoppedIf b
    ∧ (if b then w.enterStopped else w).modeChanged = (w.modeChanged || b) := by
  unfold State.stoppedIf
  cases b with
  | false =>
    refine ⟨?_, (Bool.or_false _).symm⟩
    show w.s = { w.s with link := { w.s.link with pendingIssue := w.s.link.pendingIssue && true } }
    rw [Bool.and_true]
  | true =>
    refine ⟨?_, (Bool.or_true _).symm⟩
    rw [if_pos rfl, Bool.true_and, if_pos rfl, if_pos rfl, if_pos rfl]
    unfold Work.enterStopped
    by_cases hm : w.s.ctl.mode = .serving
    · rw [decide_eq_true hm, if_pos hm, Bool.not_true, Bool.and_false]
      rfl
    · rw [decide_eq_false hm, if_neg hm, Bool.not_false, Bool.and_true]
      rfl

/-- Settles O21. -/
theorem contestOutcomesAndYield : Obligations.ContestOutcomesAndYield := by
  unfold Obligations.ContestOutcomesAndYield
  refine ⟨State.verdict_cases, fun s before after c => ⟨State.yieldClaim_listed, State.yieldClaim_left⟩, ?_⟩
  intro w e s ks late block marked yielded collision conflict was causes notices room stops d kept
  have hblock : mutualBlock ks = block := by
    unfold mutualBlock block
    congr 1
    exact congrArg (ks.any ·) (funext fun k => Bool.and_comm _ _)
  have hmarked : s.markedIn (mutualBlock ks) e = marked := by
    funext k
    unfold State.markedIn State.releasedByBlock marked
    rw [hblock]
    simp only [Bool.and_assoc]
  have hyielded : (ks.find? fun k => k.verdict.yields || s.markedIn (mutualBlock ks) e k) = yielded := by
    rw [hmarked]
    exact congrArg (ks.find? ·) (funext fun k => congrArg (· || _) k.verdict.yields_eq)
  have hstops : (s.contested e).risksStop collision conflict = stops := rfl
  have hcontest : w.contest e = ({ w with s := s.contested e } : Work).risksRaised collision conflict := w.contest_eq e
  have hlink : ((s.contested e).risksRecorded collision conflict).link
      = (s.link.contested late block yielded.isSome).queueAll notices := by
    have hnotices : notices = (late ++ if block then [.mutualBlock e.id (ks.any marked)] else [])
        ++ ((if collision && !was.collisionRisk then [.stopped .collisionRisk none] else [])
          ++ (if conflict && !was.startConflict then [.stopped .startConflict none] else [])) := by
      rw [← List.append_assoc]
    rw [hnotices, DriveLink.queueAll_append, ← hyielded, ← hmarked, ← hblock]
    rfl
  have hyields : (if yielded.isSome then min 65535 (s.link.counters.yields + 1) else s.link.counters.yields)
      = if yielded.isNone then s.link.counters.yields else min 65535 (s.link.counters.yields + 1) := by
    cases yielded <;> rfl
  have hkept : (s.contested e).claims = kept := congrArg s.keptAfter hyielded
  have hrecorded : (s.contested e).risksRecorded collision conflict = ((s.setClaims kept).setCtl { s.ctl with
      causes := causes
      first := if was.isEmpty = false then s.ctl.first
        else if collision then some .collisionRisk
        else if conflict then some .startConflict else s.ctl.first }).setLink
      ((s.link.contested late block yielded.isSome).queueAll notices) := by
    rw [← hlink, ← hkept]
    rfl
  obtain ⟨hs, hm⟩ := Work.stopped_if (({ w with s := s.contested e } : Work).on (·.risksRecorded collision conflict)) stops
  rw [hcontest, Work.risksRaised_eq]
  refine ⟨hs.trans ((congrArg (State.stoppedIf · stops) hrecorded).trans ?_), hm⟩
  rw [← hyields]
  rfl

end Sys2Proof.Machine

/-!
PROOF. A received frame and the peer table (R69 to R76, R82, R134).
-/

namespace Sys2Proof.Machine

/-! ### The oldest STALE entry (R75) -/

/-- An entry in slot `k` is older than one in slot `j`, the lower slot deciding between equals. -/
def PeerEntry.olderAt (e : PeerEntry) (k : Nat) (x : PeerEntry) (j : Nat) : Prop :=
  e.lastHeard < x.lastHeard ∨ (e.lastHeard = x.lastHeard ∧ k ≤ j)

theorem PeerEntry.olderAt.trans {e x y : PeerEntry} {k j i : Nat} (h : e.olderAt k x j) (h' : x.olderAt j y i) :
    e.olderAt k y i := by
  unfold PeerEntry.olderAt at *
  omega

/-- One slot of the search: the best so far stays, or the slot's STALE entry takes its place. -/
theorem oldestStale_cons (o : Option PeerEntry) (rest : List (Option PeerEntry)) {n : Nat}
    {best : Option (Nat × PeerEntry)} (hb : ∀ b, best = some b → b.1 < n) : ∃ best',
    oldestStale (o :: rest) n best = oldestStale rest (n + 1) best'
      ∧ ((best' = best ∧ ∀ x, o = some x → x.age = .stale → ∃ b, best = some b ∧ b.2.olderAt b.1 x n)
        ∨ ∃ x, o = some x ∧ x.age = .stale ∧ best' = some (n, x)
          ∧ ∀ b, best = some b → x.olderAt n b.2 b.1) := by
  cases o with
  | none => exact ⟨best, rfl, .inl ⟨rfl, nofun⟩⟩
  | some x =>
    cases best with
    | none =>
      have hstep : oldestStale (some x :: rest) n none
          = if x.age = .stale then oldestStale rest (n + 1) (some (n, x)) else oldestStale rest (n + 1) none := rfl
      by_cases hx : x.age = .stale
      · exact ⟨_, hstep.trans (if_pos hx), .inr ⟨x, rfl, hx, rfl, nofun⟩⟩
      · exact ⟨_, hstep.trans (if_neg hx), .inl ⟨rfl, fun y hy hs => absurd (Option.some.inj hy ▸ hs) hx⟩⟩
    | some b =>
      have hstep : oldestStale (some x :: rest) n (some b)
          = if x.age = .stale then
              if x.lastHeard < b.2.lastHeard then oldestStale rest (n + 1) (some (n, x))
              else oldestStale rest (n + 1) (some b)
            else oldestStale rest (n + 1) (some b) := rfl
      by_cases hx : x.age = .stale
      · rw [if_pos hx] at hstep
        by_cases hlt : x.lastHeard < b.2.lastHeard
        · refine ⟨_, hstep.trans (if_pos hlt), .inr ⟨x, rfl, hx, rfl, fun b' hb' => .inl ?_⟩⟩
          rwa [← Option.some.inj hb']
        · refine ⟨_, hstep.trans (if_neg hlt), .inl ⟨rfl, fun y hy _ => ⟨b, rfl, ?_⟩⟩⟩
          rw [← Option.some.inj hy]
          have := hb b rfl
          unfold PeerEntry.olderAt
          omega
      · exact ⟨_, hstep.trans (if_neg hx), .inl ⟨rfl, fun y hy hs => absurd (Option.some.inj hy ▸ hs) hx⟩⟩

/-- The search finds an entry that is no younger than the best so far and every STALE one looked at. -/
theorem oldestStale_some {slots : List (Option PeerEntry)} {n k : Nat} {best : Option (Nat × PeerEntry)} {e : PeerEntry}
    (hb : ∀ b, best = some b → b.1 < n) (h : oldestStale slots n best = some (k, e)) :
    (best = some (k, e) ∨ ∃ j, k = n + j ∧ slots[j]? = some (some e) ∧ e.age = .stale)
      ∧ (∀ b, best = some b → e.olderAt k b.2 b.1)
      ∧ ∀ j x, slots[j]? = some (some x) → x.age = .stale → e.olderAt k x (n + j) := by
  induction slots generalizing n best with
  | nil =>
    refine ⟨.inl h, fun b hbest => ?_, fun j x hx => absurd hx (by simp)⟩
    obtain rfl := Option.some.inj (hbest.symm.trans h)
    exact .inr ⟨rfl, Nat.le_refl _⟩
  | cons o rest ih =>
    obtain ⟨best', hstep, hbest⟩ := oldestStale_cons o rest hb
    rw [hstep] at h
    obtain ⟨rfl, hkept⟩ | ⟨x, rfl, hx, rfl, hbeats⟩ := hbest
    · obtain ⟨hfrom, hbeats, hall⟩ := ih (fun b hb' => Nat.lt_succ_of_lt (hb b hb')) h
      refine ⟨hfrom.imp_right fun ⟨j, hk, hj, ha⟩ => ⟨j + 1, by omega, hj, ha⟩, hbeats, fun j y hy hs => ?_⟩
      cases j with
      | zero =>
        obtain ⟨b, hb', hold⟩ := hkept y (Option.some.inj hy) hs
        exact (hbeats b hb').trans hold
      | succ j =>
        have h1 := hall j y hy hs
        rwa [Nat.succ_add_eq_add_succ] at h1
    · obtain ⟨hfrom, hwins, hall⟩ := ih (best := some (n, x)) (fun b hb' => by
        rw [← Option.some.inj hb']
        exact Nat.lt_succ_self n) h
      have hx0 := hwins _ rfl
      refine ⟨.inr ?_, fun b hb' => hx0.trans (hbeats b hb'), fun j y hy hs => ?_⟩
      · obtain heq | ⟨j, hk, hj, ha⟩ := hfrom
        · cases heq
          exact ⟨0, rfl, rfl, hx⟩
        · exact ⟨j + 1, by omega, hj, ha⟩
      · cases j with
        | zero =>
          obtain rfl : x = y := Option.some.inj (Option.some.inj hy)
          exact hx0
        | succ j =>
          have h1 := hall j y hy hs
          rwa [Nat.succ_add_eq_add_succ] at h1

theorem oldestStale_eq_none {slots : List (Option PeerEntry)} {n : Nat} {best : Option (Nat × PeerEntry)}
    (hb : ∀ b, best = some b → b.1 < n) (h : oldestStale slots n best = none) :
    best = none ∧ ∀ x, some x ∈ slots → x.age ≠ .stale := by
  induction slots generalizing n best with
  | nil => exact ⟨h, fun x hx => absurd hx List.not_mem_nil⟩
  | cons o rest ih =>
    obtain ⟨best', hstep, hbest⟩ := oldestStale_cons o rest hb
    rw [hstep] at h
    obtain ⟨rfl, hkept⟩ | ⟨x, rfl, hx, rfl, -⟩ := hbest
    · obtain ⟨rfl, hall⟩ := ih (fun b hb' => Nat.lt_succ_of_lt (hb b hb')) h
      refine ⟨rfl, fun x hx => ?_⟩
      obtain hx | hx := List.mem_cons.mp hx
      · intro hs
        obtain ⟨b, hb', -⟩ := hkept x hx.symm hs
        cases hb'
      · exact hall x hx
    · obtain ⟨hn, -⟩ := ih (best := some (n, x)) (fun b hb' => by
        rw [← Option.some.inj hb']
        exact Nat.lt_succ_self n) h
      cases hn

theorem oldestStale_none {slots : List (Option PeerEntry)} {n : Nat} (h : ∀ x, some x ∈ slots → x.age ≠ .stale) :
    oldestStale slots n none = none := by
  induction slots generalizing n with
  | nil => rfl
  | cons o rest ih =>
    have hb : ∀ b : Nat × PeerEntry, none = some b → b.1 < n := fun b hb' => absurd hb' (Option.some_ne_none b).symm
    obtain ⟨best', hstep, ⟨rfl, -⟩ | ⟨x, rfl, hx, -⟩⟩ := oldestStale_cons o rest hb
    · rw [hstep]
      exact ih fun x hx => h x (List.mem_cons_of_mem _ hx)
    · exact absurd hx (h x List.mem_cons_self)

/-- The entry that a table full of others gives up (R75). -/
theorem oldestStale_eq {slots : List (Option PeerEntry)} {k : Nat} {old : PeerEntry} (hk : slots[k]? = some (some old))
    (hs : old.age = .stale) (h : ∀ j x, slots[j]? = some (some x) → x.age = .stale → old.olderAt k x j) :
    oldestStale slots 0 none = some (k, old) := by
  have hb : ∀ b : Nat × PeerEntry, none = some b → b.1 < 0 := fun b hb' => absurd hb' (Option.some_ne_none b).symm
  cases hr : oldestStale slots 0 none with
  | none => exact absurd hs ((oldestStale_eq_none hb hr).2 old (List.mem_of_getElem? hk))
  | some r =>
    obtain ⟨i, e⟩ := r
    obtain ⟨hfrom, -, hall⟩ := oldestStale_some hb hr
    obtain heq | ⟨j, rfl, hj, ha⟩ := hfrom
    · cases heq
    · have h1 := hall k old hk hs
      have h2 := h j e hj ha
      rw [Nat.zero_add] at *
      obtain rfl : j = k := by
        unfold PeerEntry.olderAt at h1 h2
        omega
      obtain rfl : e = old := Option.some.inj (Option.some.inj (hj.symm.trans hk))
      rfl

/-! ### What an accepted beacon's contests leave (R82, R92) -/

section
variable (w : Work) (e : PeerEntry)

theorem Work.contest_overrunEntry : (w.contest e).overrunEntry = w.overrunEntry := by
  rw [w.contest_eq, Work.risksRaised_eq]
  split <;> rfl

theorem Work.contest_body : (w.contest e).s.body = w.s.body := by
  have hs := (contestOutcomesAndYield.2.2 w e).1
  dsimp only at hs
  rw [hs]
  rfl

/-- The contests count no beacon, and the notices that wait stay. -/
theorem Work.contest_link : (∃ new, (w.contest e).s.link.outgoing = w.s.link.outgoing ++ new)
    ∧ (w.s.link.latched.noticeOverflow = true → (w.contest e).s.link.latched.noticeOverflow = true)
    ∧ (w.contest e).s.link.counters.beaconsHeard = w.s.link.counters.beaconsHeard
    ∧ (w.contest e).s.link.counters.beaconsRejected = w.s.link.counters.beaconsRejected := by
  have hs := (contestOutcomesAndYield.2.2 w e).1
  dsimp only at hs
  rw [hs]
  exact ⟨⟨_, rfl⟩, fun h => Bool.or_eq_true_iff.mpr (.inl h), rfl, rfl⟩

end

/-! ### A beacon stored and handed on (R73, R74, R82) -/

/-- The state with an accepted beacon's entry in its slot, counted. -/
def State.heardIn (base : State) (k : Nat) (e : PeerEntry) : State := (base.putSlot k (some e)).count .beaconsHeard

/-- The state once the contests with an accepted beacon are carried out. -/
def State.metIn (base : State) (k : Nat) (e : PeerEntry) : State := ((Work.begin (base.heardIn k e)).contest e).s

theorem State.recomputedInto_of_promoted {w : Work} {t before : State} (ho : w.overrunEntry = false)
    (h : (w.peersChanged.settle before).s.Closes t) : w.s.evaluatePromotion.recomputedInto t := by
  rw [Work.settle_of_recompute rfl] at h
  exact Work.recomputedInto_of_closes (w := w.peersChanged) ho h

section
variable {base t before : State} {k : Nat} {e : PeerEntry}
variable (h : (((Work.begin base).storePeer k e).settle before).s.Closes t)
include h

theorem State.stored_into : (base.metIn k e).evaluatePromotion.recomputedInto t :=
  State.recomputedInto_of_promoted ((Work.begin (base.heardIn k e)).contest_overrunEntry e) h

omit h in
theorem State.stored_grows : (base.metIn k e).link.Grows (((Work.begin base).storePeer k e).settle before).s.link := by
  have hlink : ((Work.begin base).storePeer k e).s.link = (base.metIn k e).link := State.evaluatePromotion_link _
  rw [← hlink]
  exact Work.settle_grows _ _

theorem State.stored_link : t.link.counters = (base.metIn k e).link.counters
    ∧ t.link.counters.beaconsHeard = min 65535 (base.link.counters.beaconsHeard + 1)
    ∧ t.link.counters.beaconsRejected = base.link.counters.beaconsRejected
    ∧ t.link.latched.lateContest = (base.metIn k e).link.latched.lateContest
    ∧ t.link.latched.mutualBlock = (base.metIn k e).link.latched.mutualBlock
    ∧ (∀ x ∈ (base.metIn k e).link.outgoing, x.isNotice = true → x.complete t.ctl.mode ∈ t.link.order) := by
  have hgrows := (State.stored_grows (base := base) (k := k) (e := e) (before := before))
  obtain ⟨-, -, hheard, hrejected⟩ := (Work.begin (base.heardIn k e)).contest_link e
  have hcounters : t.link.counters = (base.metIn k e).link.counters := h.counters.trans hgrows.counters
  have hlatched := h.latched.trans hgrows.latched
  refine ⟨hcounters, ?_, ?_, ?_, ?_, fun x hx hn => ?_⟩
  · rw [hcounters]
    exact hheard
  · rw [hcounters]
    exact hrejected
  · rw [hlatched]
  · rw [hlatched]
  · rw [h.ctl]
    exact h.notices x (hgrows.mem hx) hn

theorem State.stored_body : t.peers = { base.peers with slots := base.peers.slots.set k (some e) }
    ∧ t.route = base.route ∧ t.pos = base.pos ∧ t.beacon = base.beacon ∧ t.config = base.config
    ∧ base.sameOutside t := by
  have hbody : t.body = (base.heardIn k e).body := (Work.settle_closes_body h).trans
    ((State.evaluatePromotion_body _).trans ((Work.begin (base.heardIn k e)).contest_body e))
  obtain ⟨hroute, hpos, hpeers, hbeacon, hconfig, hsame⟩ := State.body_eq_iff.mp hbody
  exact ⟨hpeers, hroute, hpos, hbeacon, hconfig, hsame⟩

/-- A notice queued before the contests is sent. -/
theorem State.stored_noticed {s : State} {n n' : Notice} (hq : s.queued base.link n)
    (hn : OutItem.complete t.ctl.mode (.notice n) = .notice n') : s.noticed t n' := by
  obtain ⟨⟨new, hout⟩, hover, -⟩ := (Work.begin (base.heardIn k e)).contest_link e
  have hmet : s.queued (base.metIn k e).link n :=
    ⟨fun hl => by
      show _ ∈ ((Work.begin (base.heardIn k e)).contest e).s.link.outgoing
      rw [hout]
      exact List.mem_append_left _ (hq.1 hl), fun hl => hover (hq.2 hl)⟩
  exact (hmet.grows ((State.stored_grows (base := base) (k := k) (e := e) (before := before)))).noticed h (h.ctl ▸ hn)

end

/-! ### A received frame -/

section
variable {s : State} {body : List Byte} (hh : s.held = false) (hm : s.ctl.mode ≠ .init) (hr : s.beacon.rx = [])
variable (hb : body.length ≤ 250)
include hh hm hr hb

theorem State.exec_rxFrame : exec (.rxFrame body) s = .next (s.event fun w => w.receive body) :=
  congrArg Host.Outcome.next ((State.ifDue_of_due _ hh rfl).trans ((State.airBytes_frame hm hr hb).trans rfl))

end

theorem accepts_iff {old e : PeerEntry} : accepts old e = true ↔ (1 ≤ (e.seq - old.seq).toNat ∧ (e.seq - old.seq).toNat ≤ 127)
    ∨ (e.mode = .listen ∧ old.mode ≠ .listen) ∨ old.age = .stale := by
  simp [accepts, or_assoc]

section
variable {w : Work} {body : List Byte} {b : Beacon}

theorem Work.receive_own (h : readBeacon body = some b) (hown : w.s.beacon.lastPayload = some body) :
    w.receive body = w := by
  unfold Work.receive
  rw [h]
  exact if_pos hown

theorem Work.receive_bad (h : readBeacon body = some b) (hown : w.s.beacon.lastPayload ≠ some body)
    (hbad : checkBeacon b w.s.now = none) : w.receive body = w.on (·.count .beaconsRejected) := by
  unfold Work.receive
  rw [h]
  refine (if_neg hown).trans ?_
  rw [hbad]

theorem Work.receive_good {e : PeerEntry} (h : readBeacon body = some b) (hown : w.s.beacon.lastPayload ≠ some body)
    (he : checkBeacon b w.s.now = some e) : w.receive body = w.takeBeacon e := by
  unfold Work.receive
  rw [h]
  refine (if_neg hown).trans ?_
  rw [he]

end

section
variable {w : Work} {e : PeerEntry} (hid : e.id ≠ w.s.config.straps.stationId)
include hid

theorem Work.takeBeacon_known {k : Nat} {old : PeerEntry} (hk : w.s.peers.slotOf e.id = some k)
    (ho : w.s.peers.slots[k]? = some (some old)) :
    w.takeBeacon e = if accepts old e then w.storePeer k e else w := by
  unfold Work.takeBeacon
  rw [if_neg hid, hk]
  dsimp only
  rw [PeerTable.entryIn_eq_some.mpr ho]

theorem Work.takeBeacon_empty {k : Nat} (hno : w.s.peers.slotOf e.id = none) (hk : w.s.peers.emptySlot = some k) :
    w.takeBeacon e = w.storePeer k e := by
  unfold Work.takeBeacon
  rw [if_neg hid, hno]
  dsimp only
  rw [hk]

theorem Work.takeBeacon_full (hno : w.s.peers.slotOf e.id = none) (hk : w.s.peers.emptySlot = none) :
    w.takeBeacon e = match oldestStale w.s.peers.slots 0 none with
      | some (k, old) => (w.on (·.removePeer k old true)).storePeer k e
      | none => w.on (·.tableOverflow) := by
  unfold Work.takeBeacon
  rw [if_neg hid, hno]
  dsimp only
  rw [hk] <;> rfl

end

/-- A slot emptied for a beacon is the beacon's at once. -/
theorem Work.storePeer_evicted (u : State) (k : Nat) (e : PeerEntry) :
    (Work.begin (u.putSlot k none)).storePeer k e = (Work.begin u).storePeer k e := by
  have hslot : (u.putSlot k none).heardIn k e = u.heardIn k e := by
    show State.count (State.setPeers _ { u.peers with slots := (u.peers.slots.set k none).set k (some e) }) _ = _
    rw [List.set_set]
    rfl
  exact congrArg (fun v : State => ((Work.begin v).contest e).peersChanged) hslot

/-- Settles O53. -/
theorem receivedBeaconUpdatesPeerTable : Obligations.ReceivedBeaconUpdatesPeerTable := by
  unfold Obligations.ReceivedBeaconUpdatesPeerTable
  intro s body hh hm hr hc hb rejected unchanged stored
  have hexec := State.exec_rxFrame hh hm hr hb
  have reject (hw : (Work.begin s).receive body = (Work.begin s).on (·.count .beaconsRejected)) : rejected :=
    hexec.trans (congrArg Host.Outcome.next (State.event_rejected hc hw))
  have leave (hw : (Work.begin s).receive body = Work.begin s) : unchanged :=
    hexec.trans (congrArg Host.Outcome.next (State.event_plain hw rfl hc))
  have store (base : State) (k : Nat) (e : PeerEntry)
      (hw : (Work.begin s).receive body = (Work.begin base).storePeer k e)
      (hbase : base.body = s.body) (hcounters : base.link.counters = s.link.counters) :
      stored base k e (s.event fun w => w.receive body)
        ∧ ∀ n n', s.queued base.link n → (∀ m, OutItem.complete m (.notice n) = .notice n') →
          s.noticed (s.event fun w => w.receive body) n' := by
    have hclose := s.event_closes fun w => w.receive body
    rw [hw] at hclose
    obtain ⟨hc1, hc2, hc3, hc4, hc5, hc6⟩ := State.stored_link hclose
    obtain ⟨hpeers, hroute, hpos, hbeacon, hconfig, hsame⟩ := State.stored_body hclose
    obtain ⟨hbroute, hbpos, hbpeers, hbbeacon, hbconfig, hbsame⟩ := State.body_eq_iff.mp hbase
    rw [hcounters] at hc2 hc3
    rw [hbpeers] at hpeers
    exact ⟨⟨hexec, hpeers, hc2, hc3, State.stored_into hclose, hc1, hc4, hc5, hc6, hroute.trans hbroute, hpos.trans hbpos,
      hbeacon.trans hbbeacon, hconfig.trans hbconfig, State.outside_eq_iff.mp
        ((State.outside_eq_iff.mpr hsame).trans (State.outside_eq_iff.mpr hbsame))⟩,
      fun n n' hq hn => State.stored_noticed hclose hq (hn _)⟩
  refine ⟨fun hnone => reject ?_, fun b hread => ⟨fun hown => leave (Work.receive_own hread hown), fun hown =>
    ⟨fun hbad => reject (Work.receive_bad hread hown hbad), fun e he => ?_⟩⟩⟩
  · unfold Work.receive
    rw [hnone]
  have htake : (Work.begin s).receive body = (Work.begin s).takeBeacon e := Work.receive_good hread hown he
  refine ⟨fun hid => ?_, fun hid => ⟨fun k old hk ho => ?_, fun hno => ⟨fun k hk => ?_, fun hfull =>
    ⟨fun k old hk hs hold => ?_, fun hfresh => ?_⟩⟩⟩⟩
  · have hw : (Work.begin s).receive body = (Work.begin s).raise .duplicateId := htake.trans (if_pos hid)
    have hclose := s.event_closes fun w => w.receive body
    rw [hw] at hclose
    have hctl := Work.settle_closes_ctl ((Work.begin s).raise_overrunEntry .duplicateId) (Work.raise_not_serving nofun) hclose
    obtain ⟨hroute, hpos, hpeers, hbeacon, hconfig, hsame⟩ :=
      State.body_eq_iff.mp ((Work.settle_closes_body hclose).trans (Work.raise_body _ .duplicateId))
    refine ⟨_, hexec, ?_, fun hsp => ?_, (Work.settle_closes_counters hclose).trans (Work.raise_grows _ _).counters,
      (Work.settle_closes_reserved hclose).trans (Work.raise_reserved (w := Work.begin s) (c := .duplicateId) nofun), hpeers, hroute, hpos, hbeacon,
      hconfig, hsame⟩
    · rw [hctl]
      exact Work.raise_has (c := .duplicateId) nofun
    · rw [hctl]
      exact (Work.raise_stopped (w := Work.begin s) (c := .duplicateId) nofun (hsp.imp_right Or.inl)).1
  · have hw := htake.trans (Work.takeBeacon_known (w := Work.begin s) hid hk ho)
    refine ⟨fun ha => ⟨_, (store s k e (hw.trans (if_pos (accepts_iff.mpr ha))) rfl rfl).1⟩, fun ha => leave (hw.trans (if_neg ?_))⟩
    exact fun hx => ha (accepts_iff.mp hx)
  · exact ⟨_, (store s k e (htake.trans (Work.takeBeacon_empty (w := Work.begin s) hid hno hk)) rfl rfl).1⟩
  · intro lost
    have holdest : oldestStale (Work.begin s).s.peers.slots 0 none = some (k, old) := oldestStale_eq hk hs hold
    have hw : (Work.begin s).receive body = (Work.begin (s.queueNotice lost)).storePeer k e := by
      rw [htake, Work.takeBeacon_full (w := Work.begin s) hid hno hfull, holdest]
      exact Work.storePeer_evicted (s.queueNotice lost) k e
    obtain ⟨l, hl⟩ := s.queueNotice_link lost
    obtain ⟨hstored, hnoticed⟩ := store _ k e hw (by rw [hl]; rfl) (s.queueNotice_grows lost).counters
    exact ⟨_, hstored, hnoticed lost lost (s.queueNotice_queued lost) fun _ => rfl⟩
  · have hnone : oldestStale (Work.begin s).s.peers.slots 0 none = none := oldestStale_none fun x hx => by
      rw [hfresh x (List.mem_filterMap.mpr ⟨_, hx, rfl⟩)]
      nofun
    have hw : (Work.begin s).receive body = Work.begin s.tableOverflow := by
      rw [htake, Work.takeBeacon_full (w := Work.begin s) hid hno hfull, hnone]
      rfl
    exact hexec.trans (congrArg Host.Outcome.next (State.event_plain hw rfl hc))

end Sys2Proof.Machine

/-!
PROOF. The end of a configuration load: the record's pairs, the raises, and the entry into LISTEN (R140, R173 to
R175).
-/

namespace Sys2Proof.Machine

/-! ### The record's pairs and the raises (R173, R174) -/

theorem applyPairs_concat (p : Params) (pairs : List (ParamId × Nat)) (x : ParamId × Nat) :
    applyPairs p (pairs ++ [x]) = ((applyPairs p pairs).1.put (x.1.clamp x.2) x.1,
      (applyPairs p pairs).2 || x.1.clamp x.2 != x.2) := foldl_append_singleton ..

/-- The last pair of a parameter counts. -/
theorem applyPairs_get (p : Params) (pairs : List (ParamId × Nat)) (i : ParamId) :
    (applyPairs p pairs).1.get i = match (pairs.filter fun x => x.1 == i).getLast? with
      | none => p.get i
      | some x => max i.range.1 (min i.range.2 x.2) := by
  induction pairs using list_end_induction with
  | nil => rfl
  | append_singleton pairs x ih =>
    rw [applyPairs_concat, Params.get_put, List.filter_append]
    by_cases hx : x.1 = i
    · have hf : [x].filter (fun y => y.1 == i) = [x] := List.filter_cons_of_pos (beq_iff_eq.mpr hx)
      rw [if_pos hx, hf, List.getLast?_concat, hx]
      rfl
    · have hf : [x].filter (fun y => y.1 == i) = [] := List.filter_cons_of_neg (fun h => hx (beq_iff_eq.mp h))
      rw [if_neg hx, hf, List.append_nil, ih]

theorem ParamId.clamp_bne (i : ParamId) (v : Nat) : (i.clamp v != v) = true ↔ v < i.range.1 ∨ i.range.2 < v := by
  have hr : i.range.1 ≤ i.range.2 := by cases i <;> decide
  rw [bne_iff_ne, ParamId.clamp, clampTo]
  omega

theorem applyPairs_clamped (p : Params) (pairs : List (ParamId × Nat)) :
    (applyPairs p pairs).2 = true ↔ ∃ x ∈ pairs, x.2 < x.1.range.1 ∨ x.1.range.2 < x.2 := by
  induction pairs using list_end_induction with
  | nil => exact ⟨nofun, nofun⟩
  | append_singleton pairs x ih =>
    rw [applyPairs_concat, Bool.or_eq_true, ih, ParamId.clamp_bne]
    simp [or_and_right, exists_or]

theorem raiseFloors_get (p : Params) (i : ParamId) : (raiseFloors p).1.get i = match i with
    | .yieldWindow => max p.yieldWindow (2 * p.beaconPeriod + p.beaconJitter + 50)
    | .peerStale => max p.peerStale (3 * p.beaconPeriod + p.beaconJitter + 50)
    | .listenMs => max p.listenMs (raiseFloors p).1.peerStale
    | _ => p.get i := by
  cases i <;> rfl

theorem raiseFloors_raised (p : Params) : (raiseFloors p).2 = true ↔ (raiseFloors p).1 ≠ p := by
  obtain ⟨p1, p2, p3, p4, p5, p6, p7, p8, p9, p10, p11, p12, p13, p14, p15, p16, p17, p18⟩ := p
  simp only [raiseFloors, decide_eq_true_eq, ne_eq, Params.mk.injEq, true_and, and_true]
  omega

/-! ### The entry into LISTEN (R140, R175) -/

section
variable (s : State) (c : ConfigLoader) (rate : Option LinkRate)

/-- The state as a load has entered LISTEN, EXTERNAL recorded where the input is asserted (R140, R151). -/
def State.loaded : State :=
  if s.extPin then ((s.configured c rate).listening).recordCause .external else (s.configured c rate).listening

/-- The end of a load without fault, before start. -/
theorem Work.loadDone_eq {s : State} (hs : s.pos.start = false) : (Work.begin s).loadDone c rate
    = { Work.begin (s.loaded c rate) with recompute := true, modeChanged := true } := by
  let w : Work := { Work.begin (s.configured c rate).listening with recompute := true, modeChanged := true }
  have hbegin : (Work.begin s).loadDone c rate = if w.s.extPin then w.raise .external else w := by
    cases rate <;> rfl
  have hctl : w.s.ctl.mode = .listen :=
    congrArg ModeController.mode (State.configured_listening_ctl s c rate)
  have hpos : w.s.pos = s.pos := by
    show (s.configured c rate).pos = _
    rw [State.configured_eq]
    rfl
  have hpin : w.s.extPin = s.extPin := by
    show (s.configured c rate).extPin = _
    rw [State.configured_eq]
    rfl
  have hstays : ¬ w.s.stopsOnRaise := by
    rintro (h | h | ⟨-, h⟩)
    · cases hctl.symm.trans h
    · cases hctl.symm.trans h
    · rw [hpos, hs] at h
      cases h
  rw [hbegin, hpin, Work.raise_of_stays hstays]
  unfold State.loaded
  cases s.extPin <;> rfl

/-- What a load puts in place: the loader's items with the link rate, in force or waiting (R175). -/
theorem State.configured_rate : (s.configured c rate).config = { c with
    ready := true, loading := false
    linkRate := if s.link.transmitting.isNone then rate.getD c.linkRate else c.linkRate
    pendingRate :=
      match rate with
      | none => c.pendingRate
      | some r => if r = c.linkRate then c.pendingRate
        else if s.link.transmitting.isNone then none else some r }
    ∧ (s.configured c rate).link = { s.link with rxCut := s.link.rxCut || (s.link.transmitting.isNone
      && !s.link.rx.isEmpty && decide (rate.getD c.linkRate ≠ c.linkRate)) } := by
  have same (r : LinkRate) (h : r = c.linkRate) : (s.link.rxCut || (s.link.transmitting.isNone
      && !s.link.rx.isEmpty && decide (r ≠ c.linkRate))) = s.link.rxCut := by
    rw [decide_eq_false (Classical.not_not.mpr h), Bool.and_false, Bool.or_false]
  cases rate with
  | none =>
    have hite : (if s.link.transmitting.isNone then c.linkRate else c.linkRate) = c.linkRate := ite_self _
    dsimp only [Option.getD_none]
    rw [same _ rfl, hite]
    exact ⟨rfl, rfl⟩
  | some r =>
    let u := s.setConfig { c with ready := true, loading := false }
    have hu : s.configured c (some r) = u.orderRate r := rfl
    rw [hu]
    dsimp only [Option.getD_some]
    obtain ⟨hr, he⟩ | ⟨hr, ht, he⟩ | ⟨hr, ht, he⟩ := u.orderRate_cases r
    · have hr : r = c.linkRate := hr
      rw [he, same r hr, if_pos hr, hr, ite_self]
      exact ⟨rfl, rfl⟩
    · have hr : r ≠ c.linkRate := hr
      have hn : s.link.transmitting.isNone = true := Option.isNone_iff_eq_none.mpr ht
      rw [he, if_neg hr, hn, decide_eq_true hr, Bool.and_true, Bool.true_and]
      refine ⟨rfl, ?_⟩
      show { s.link with rxCut := s.link.rxCut || (r != c.linkRate && !s.link.rx.isEmpty) } = _
      rw [bne_iff_ne.mpr hr, Bool.true_and]
    · have hr : r ≠ c.linkRate := hr
      have ht : s.link.transmitting.isNone = false := by
        rw [Option.isNone_eq_false_iff, Option.isSome_iff_ne_none]
        exact ht
      rw [he, if_neg hr, ht, Bool.false_and, Bool.false_and, Bool.or_false]
      exact ⟨rfl, rfl⟩


theorem State.loaded_cases : s.extPin = false ∧ s.loaded c rate = (s.configured c rate).listening
    ∨ s.extPin = true ∧ s.loaded c rate = ((s.configured c rate).listening).recordCause .external := by
  unfold State.loaded
  cases s.extPin
  · exact .inl ⟨rfl, rfl⟩
  · exact .inr ⟨rfl, rfl⟩

/-- The Mode Controller and the causes as LISTEN is entered (R140, R151). -/
theorem State.loaded_ctl : (s.loaded c rate).ctl.mode = .listen ∧ (s.loaded c rate).ctl.line = .asserted
    ∧ (s.loaded c rate).ctl.listenFrom = some s.now ∧ (s.loaded c rate).ctl.external = s.extPin
    ∧ (s.loaded c rate).ctl.causes = if s.extPin then s.ctl.causes.add .external else s.ctl.causes := by
  have hctl := State.configured_listening_ctl s c rate
  obtain ⟨hp, h⟩ | ⟨hp, h⟩ := s.loaded_cases c rate
  · rw [h, hctl, hp]
    exact ⟨rfl, rfl, rfl, rfl, rfl⟩
  · rw [h, State.recordCause_unmarked _ rfl, hp]
    rw [hctl]
    exact ⟨rfl, rfl, rfl, hp, rfl⟩

/-- The Drive Link Unit as LISTEN is entered: only a notice may have joined. -/
theorem State.loaded_link : (s.configured c rate).listening.link.Grows (s.loaded c rate).link := by
  obtain ⟨-, h⟩ | ⟨-, h⟩ := s.loaded_cases c rate
  · rw [h]
    exact .refl
  · rw [h]
    exact State.recordCause_grows _ _

theorem State.configured_listening_link : (s.configured c rate).listening.link = { (s.configured c rate).link with
    authTimer := some (s.now + c.params.authPeriod) } := by
  show { (s.configured c rate).link with
    authTimer := some ((s.configured c rate).now + (s.configured c rate).config.params.authPeriod) } = _
  rw [(s.configured_rate c rate).1, s.configured_eq]
  rfl

/-- The receiver, the sequence and the authority period timer as LISTEN is entered. -/
theorem State.loaded_link_fields : (s.loaded c rate).link.rx = s.link.rx
    ∧ (s.loaded c rate).link.rxCut = (s.configured c rate).link.rxCut
    ∧ (s.loaded c rate).link.authSeq = s.link.authSeq
    ∧ (s.loaded c rate).link.authTimer = some (s.now + c.params.authPeriod) := by
  rw [(s.loaded_link c rate).rest, s.configured_listening_link, (s.configured_rate c rate).2]
  exact ⟨rfl, rfl, rfl, rfl⟩

/-- What the entry into LISTEN leaves. -/
theorem State.loaded_rest : (s.loaded c rate).body = (s.configured c rate).listening.body
    ∧ (s.loaded c rate).claims = s.claims ∧ (s.loaded c rate).auth = s.auth := by
  have he := s.configured_eq c rate
  have hclaims : (s.configured c rate).listening.claims = s.claims := by
    show (s.configured c rate).claims = _
    rw [he]
    rfl
  have hauth : (s.configured c rate).listening.auth = s.auth := by
    show (s.configured c rate).auth = _
    rw [he]
    rfl
  obtain ⟨-, h⟩ | ⟨-, h⟩ := s.loaded_cases c rate
  · rw [h]
    exact ⟨rfl, hclaims, hauth⟩
  · rw [h, State.recordCause_claims, State.recordCause_auth]
    exact ⟨State.recordCause_body _ _, hclaims, hauth⟩

/-- The parts of the state that stand, and the beacon timer, as LISTEN is entered (R125). -/
theorem State.loaded_body : (s.loaded c rate).route = s.route ∧ (s.loaded c rate).pos = s.pos
    ∧ (s.loaded c rate).peers = s.peers
    ∧ (s.loaded c rate).beacon = { s.beacon with timer := some (s.now + c.params.beaconPeriod
        + s.beacon.jitter.toNat % (c.params.beaconJitter + 1)) }
    ∧ (s.loaded c rate).config = (s.configured c rate).config ∧ s.sameOutside (s.loaded c rate) := by
  have he := s.configured_eq c rate
  have hp : (s.configured c rate).config.params = c.params := by rw [(s.configured_rate c rate).1]
  obtain ⟨hroute, hpos, hpeers, hbeacon, hconfig, hout⟩ := State.body_eq_iff.mp (s.loaded_rest c rate).1
  have hb : (s.configured c rate).listening.beacon = { s.beacon with timer := some (s.now + c.params.beaconPeriod
      + s.beacon.jitter.toNat % (c.params.beaconJitter + 1)) } := by
    show { (s.configured c rate).beacon with timer := some ((s.configured c rate).now
      + (s.configured c rate).config.params.beaconPeriod + (s.configured c rate).beacon.jitter.toNat
        % ((s.configured c rate).config.params.beaconJitter + 1)) } = _
    rw [hp, he]
    rfl
  refine ⟨hroute.trans ?_, hpos.trans ?_, hpeers.trans ?_, hbeacon.trans hb, hconfig, ?_⟩
  · show (s.configured c rate).route = _
    rw [he]
    rfl
  · show (s.configured c rate).pos = _
    rw [he]
    rfl
  · show (s.configured c rate).peers = _
    rw [he]
    rfl
  · refine State.outside_eq_iff.mp ((State.outside_eq_iff.mpr hout).trans ?_)
    show (s.configured c rate).outside = _
    rw [he]
    rfl

end

/-- An issue, and the end of an event, leave the receiver of the drive link. -/
theorem State.event_receiver (s : State) (f : Work → Work) :
    (s.event f).link.rx = ((f (Work.begin s)).settle s).s.link.rx
      ∧ (s.event f).link.rxCut = ((f (Work.begin s)).settle s).s.link.rxCut := by
  let w := (f (Work.begin s)).settle s
  have hissue : w.s.issueAuthority.link.rx = w.s.link.rx ∧ w.s.issueAuthority.link.rxCut = w.s.link.rxCut := by
    obtain h | ⟨-, h⟩ := w.s.issueAuthority_link_cases <;> rw [h] <;> exact ⟨rfl, rfl⟩
  have hclose : w.close.link.rx = w.s.link.rx ∧ w.close.link.rxCut = w.s.link.rxCut := by
    unfold Work.close
    split
    · exact hissue
    · exact ⟨rfl, rfl⟩
  show w.close.transmit.link.rx = _ ∧ w.close.transmit.link.rxCut = _
  obtain h | ⟨x, xs, -, -, -, -, h⟩ := w.close.transmit_cases <;> rw [h] <;> exact hclose

/-- A load that ends without fault is the end of the load with the items it puts in place. -/
theorem Work.loadEnd_of_good {s : State} {memory : List Byte} {c : ConfigLoader} {rate : Option LinkRate}
    (h1 : 1 ≤ s.config.straps.stationId.toNat) (h250 : s.config.straps.stationId.toNat ≤ 250)
    (h : (readRecord memory = .noRecord ∧ rate = none ∧ c = s.config.standDefaults)
      ∨ ∃ pairs classes, readRecord memory = .record pairs classes ∧ c = s.config.apply pairs classes
        ∧ rate = if pairs.any (fun p => p.1 == .linkRate) then some (.ofCode c.params.linkRate) else none) :
    (Work.begin s).loadEnd memory = (Work.begin s).loadDone c rate := by
  unfold Work.loadEnd
  refine (if_neg (not_or.mpr ⟨Nat.not_lt.mpr h1, Nat.not_lt.mpr h250⟩)).trans ?_
  obtain ⟨hr, rfl, rfl⟩ | ⟨pairs, classes, hr, rfl, rfl⟩ := h
  · rw [hr]
    rfl
  · rw [hr]
    rfl

/-- The state a good load leads to, before its AUTHORITY message. -/
theorem Work.loadDone_settle {s : State} (c : ConfigLoader) (rate : Option LinkRate) (hs : s.pos.start = false) :
    ((Work.begin s).loadDone c rate).settle s = { Work.begin (s.loaded c rate) with
      s := (s.loaded c rate).setAuth (s.loaded c rate).restingAuthority
      recompute := true, modeChanged := true, issue := true } := by
  have hm : (s.loaded c rate).ctl.mode ≠ .serving := by
    rw [(s.loaded_ctl c rate).1]
    decide
  rw [Work.loadDone_eq c rate hs, Work.settle_of_recompute rfl, Work.recomputeNow_of_fits rfl fun h => absurd h hm]
  show ({ Work.begin (s.loaded c rate) with
    s := (s.loaded c rate).setAuth (s.loaded c rate).computeAuthority.1
    recompute := true, modeChanged := true, issue := true } : Work) = _
  rw [State.computeAuthority_of_not_serving hm]

/-- Settles O32: the last pair counts by induction on the record, and the load's end is one change of mode,
its recomputation and its issue. -/
theorem goodLoadEntersListen : Obligations.GoodLoadEntersListen := by
  refine ⟨by decide, fun p pairs => ⟨applyPairs_get p pairs, applyPairs_clamped p pairs⟩,
    fun p => ⟨raiseFloors_get p, raiseFloors_raised p⟩, ?_⟩
  intro s memory c rate hh hl hmode hs h1 h250 hread
  let e := s.loaded c rate
  have hend := Work.loadEnd_of_good h1 h250 hread
  have hw : ((Work.begin s).loadEnd memory).settle s = _ :=
    (congrArg (·.settle s) hend).trans (Work.loadDone_settle c rate hs)
  obtain ⟨hem, heline, hefrom, heext, hecauses⟩ := s.loaded_ctl c rate
  obtain ⟨herx, hecut, heseq, hetimer⟩ := s.loaded_link_fields c rate
  obtain ⟨heroute, hepos, hepeers, hebeacon, heconfig, heout⟩ := s.loaded_body c rate
  obtain ⟨-, heclaims, heauth⟩ := s.loaded_rest c rate
  obtain ⟨hconfig, hlink⟩ := s.configured_rate c rate
  have hc : (Work.settle s _).s.Closes _ := State.event_closes s (·.loadEnd memory)
  have hr : _ = (Work.settle s _).s.link.rx ∧ _ = (Work.settle s _).s.link.rxCut :=
    State.event_receiver s (·.loadEnd memory)
  rw [hw] at hc hr
  have hfront : e.front? = s.front? := by rw [State.front?, State.front?, heroute, hepos]
  have hrest : e.restingAuthority = s.restingAuthority := by
    rw [State.restingAuthority, State.restingAuthority, hfront, heroute, heauth]
  have hmsg : (e.setAuth e.restingAuthority).authorityMessage = s.restingMessage .listen none := by
    unfold State.authorityMessage State.restingMessage
    show AuthorityMessage.mk e.link.authSeq e.ctl.mode e.route.state _ _ _ _ e.route.firstStop
      (if e.ctl.mode = .stopped then e.ctl.first else none) = _
    rw [hem, heseq, heroute, State.setAuth_auth, hrest]
    rfl
  have hlast : (s.event (·.loadEnd memory)).link.order.getLast? = some (.authority (s.restingMessage .listen none)) := by
    show (Work.settle s ((Work.begin s).loadEnd memory)).close.transmit.link.order.getLast? = _
    rw [State.transmit_order, hw, (Work.close_last rfl (by rw [State.setAuth_ctl, hem]; decide)).1]
    exact congrArg (some ∘ OutItem.authority) hmsg
  have hexec : exec (.configurationLoadEnd memory) s = .next (s.event (·.loadEnd memory)) :=
    congrArg Host.Outcome.next (State.ifDue_of_due _ hh hl)
  generalize s.event (·.loadEnd memory) = t at hc hr hlast hexec
  obtain ⟨htroute, htpos, htpeers, htbeacon, htconfig, htout⟩ := State.body_eq_iff.mp hc.body
  have htctl : t.ctl = e.ctl := hc.ctl
  have htauth : t.auth = e.restingAuthority := hc.auth
  rw [← htctl] at hem heline hefrom heext hecauses
  refine ⟨t, hexec, (htconfig.trans heconfig).trans hconfig, hr.1.trans herx, hr.2.trans (hecut.trans ?_), hem, heline,
    hefrom, heext, hecauses, htbeacon.trans hebeacon, hc.authTimer.trans hetimer, htauth.trans hrest, hlast,
    htroute.trans heroute, htpos.trans hepos, hc.claims.trans heclaims, htpeers.trans hepeers,
    State.outside_eq_iff.mp ((State.outside_eq_iff.mpr htout).trans (State.outside_eq_iff.mpr heout))⟩
  rw [hlink]

end Sys2Proof.Machine

/-!
PROOF. What the ageing of every peer entry at once makes of a state (R68, R77 to R82, R176).
-/

namespace Sys2Proof.Machine

/-! ### A removal outside SERVING promotes nothing (R49) -/

theorem State.sweep_of_noneTentative (s : State) (prev : Option Claim) (d : Nat) {cs : List Claim} (h : noneTentative cs) :
    s.sweep prev d cs = (cs, d, false) := by
  induction cs generalizing prev with
  | nil => rfl
  | cons c cs ih =>
    have hc : s.promotable d prev c = false := by
      unfold State.promotable
      rw [beq_false_of_ne (h c List.mem_cons_self)]
      rfl
    unfold State.sweep
    rw [hc, ih (some c) fun x hx => h x (List.mem_cons_of_mem _ hx)]
    rfl

theorem State.evaluatePromotion_of_noneTentative {s : State} (h : noneTentative s.claims.list) :
    s.evaluatePromotion = s := by
  unfold State.evaluatePromotion State.promoteAll
  rw [s.sweep_of_noneTentative none _ h]
  rfl

/-! ### One slot aged (R77 to R80) -/

/-- What the ageing parameters make of an entry at `now`. -/
def Params.aged (p : Params) (now : Nat) (e : PeerEntry) : Option PeerEntry :=
  if e.lastHeard + p.peerExpire ≤ now then none
  else if e.lastHeard + p.peerStale ≤ now then some { e with age := .stale } else some e

/-- The PEER_LOST notices of the entries of `slots` that the ageing removes. -/
def Params.lost (p : Params) (now : Nat) (slots : List (Option PeerEntry)) : List Notice :=
  (slots.filterMap id).filterMap fun e =>
    if e.lastHeard + p.peerExpire ≤ now then some (.peerLost e.id e.occupiedCount false) else none

theorem Params.lost_entry (p : Params) (now : Nat) (e : PeerEntry) : p.lost now [some e]
    = if e.lastHeard + p.peerExpire ≤ now then [.peerLost e.id e.occupiedCount false] else [] := by
  by_cases h : e.lastHeard + p.peerExpire ≤ now <;> simp [Params.lost, h]

/-- From `s` to `t` peer entries were aged: the slots and the notices, and nothing else but what promotion makes
of the claims. -/
structure State.Aged (s t : State) (slots : List (Option PeerEntry)) (lost : List Notice) : Prop where
  ctl : t.ctl = s.ctl
  body : t.body = (s.setPeers { s.peers with slots := slots }).body
  link : t.link = s.link.queueAll lost
  claims : noneTentative s.claims.list → t.claims = s.claims

section
variable {s t u : State} {slots slots' : List (Option PeerEntry)} {lost lost' : List Notice}

theorem State.Aged.refl : s.Aged s s.peers.slots [] :=
  ⟨rfl, rfl, s.link.queueAll_nil.symm, fun _ => rfl⟩

theorem State.Aged.trans (h : s.Aged t slots lost) (h' : t.Aged u slots' lost') : s.Aged u slots' (lost ++ lost') := by
  obtain ⟨hroute, hpos, hpeers, hbeacon, hconfig, hout⟩ := State.body_eq_iff.mp h.body
  refine ⟨h'.ctl.trans h.ctl, h'.body.trans ?_, ?_, fun hn => ?_⟩
  · rw [hpeers]
    exact State.body_eq_iff.mpr ⟨hroute, hpos, rfl, hbeacon, hconfig, hout⟩
  · rw [h'.link, h.link, DriveLink.queueAll_append]
  · have hc := h.claims hn
    exact (h'.claims (hc ▸ hn)).trans hc

theorem State.Aged.peers (h : s.Aged t slots lost) : t.peers = { s.peers with slots := slots } :=
  (State.body_eq_iff.mp h.body).2.2.1

theorem State.Aged.putSlot (s : State) (k : Nat) (o : Option PeerEntry) :
    s.Aged (s.putSlot k o) (s.peers.slots.set k o) [] :=
  ⟨rfl, rfl, s.link.queueAll_nil.symm, fun _ => rfl⟩

/-- A removal without eviction, and the promotion it is handed on to. -/
theorem State.Aged.removed (s : State) (k : Nat) (e : PeerEntry) : s.Aged (s.removePeer k e false).evaluatePromotion
    (s.peers.slots.set k none) [.peerLost e.id e.occupiedCount false] := by
  have hr : s.removePeer k e false
      = (s.setLink (s.link.queueAll [.peerLost e.id e.occupiedCount false])).putSlot k none := by
    rw [← State.queueNotice_eq]
    rfl
  rw [hr]
  refine ⟨State.evaluatePromotion_ctl _, State.evaluatePromotion_body _, State.evaluatePromotion_link _, fun hn => ?_⟩
  have hkeep := State.evaluatePromotion_of_noneTentative
    (s := (s.setLink (s.link.queueAll [.peerLost e.id e.occupiedCount false])).putSlot k none) hn
  rw [hkeep]
  rfl

end

section
variable {w : Work} {k : Nat}

theorem Work.ageSlot_of_empty (h : w.s.peers.entryIn k = none) : w.ageSlot k = w := by
  have hs : w.s.staleDue k = false := by
    unfold State.staleDue
    rw [h]
  have he : w.s.expireDue k = false := by
    unfold State.expireDue
    rw [h]
  unfold Work.ageSlot
  rw [hs, if_neg Bool.false_ne_true]
  exact if_neg (by rw [he]; decide)

/-- The entry of a slot as it becomes STALE, where that is due. -/
theorem State.Aged.stale {e : PeerEntry} (h : w.s.peers.slots[k]? = some (some e)) : ∃ e', e'.id = e.id
    ∧ e'.occupiedCount = e.occupiedCount ∧ e'.lastHeard = e.lastHeard
    ∧ (some e' = if e.lastHeard + w.s.config.params.peerStale ≤ w.s.now then some { e with age := .stale } else some e)
    ∧ w.s.Aged (if w.s.staleDue k then w.on (·.makeStale k) else w).s (w.s.peers.slots.set k (some e')) [] := by
  by_cases hd : w.s.staleDue k = true
  · obtain ⟨-, hl⟩ := (State.staleDue_iff h).mp hd
    refine ⟨{ e with age := .stale }, rfl, rfl, rfl, (if_pos hl).symm, ?_⟩
    rw [if_pos hd]
    show w.s.Aged (w.s.makeStale k) _ _
    rw [State.makeStale_of_entry h]
    exact .putSlot _ _ _
  · have hset : w.s.peers.slots.set k (some e) = w.s.peers.slots := by
      obtain ⟨hk, he⟩ := List.getElem?_eq_some_iff.mp h
      rw [← he, List.set_getElem_self]
    refine ⟨e, rfl, rfl, rfl, ?_, ?_⟩
    · split
      next hl =>
        have ha : e.age = .stale := by
          cases ha : e.age with
          | fresh => exact absurd ((State.staleDue_iff h).mpr ⟨ha, hl⟩) hd
          | stale => rfl
        rw [← ha]
      next => rfl
    · rw [if_neg hd, hset]
      exact .refl

/-- An entry's slot aged. -/
theorem Work.ageSlot_of_entry {e : PeerEntry} (h : w.s.peers.slots[k]? = some (some e)) :
    w.s.Aged (w.ageSlot k).s (w.s.peers.slots.set k (w.s.config.params.aged w.s.now e))
      (w.s.config.params.lost w.s.now [some e]) := by
  obtain ⟨e', hid, hcount, hheard, hstale, haged⟩ := State.Aged.stale h
  generalize hw : (if w.s.staleDue k then w.on (·.makeStale k) else w) = w' at haged
  have hslot : w'.s.peers.slots[k]? = some (some e') := by
    rw [haged.peers]
    exact List.getElem?_set_self (List.getElem?_eq_some_iff.mp h).1
  obtain ⟨-, -, -, -, hconfig, -, -, -, -, hnow, -⟩ := State.body_eq_iff.mp haged.body
  have hdue : w'.s.expireDue k = true ↔ e.lastHeard + w.s.config.params.peerExpire ≤ w.s.now := by
    rw [State.expireDue_iff hslot, hheard, hconfig, hnow]
    rfl
  have hage : w.ageSlot k = if w'.s.expireDue k then w'.dropPeer k else w' := by
    rw [← hw]
    rfl
  unfold Params.aged
  rw [hage]
  by_cases hl : e.lastHeard + w.s.config.params.peerExpire ≤ w.s.now
  · have hremoved := State.Aged.removed w'.s k e'
    rw [haged.peers, List.set_set, hid, hcount] at hremoved
    rw [if_pos (hdue.mpr hl), Work.dropPeer_of_entry hslot, if_pos hl, Params.lost_entry, if_pos hl]
    exact haged.trans hremoved
  · rw [if_neg (fun hd => hl (hdue.mp hd)), if_neg hl, ← hstale, Params.lost_entry, if_neg hl]
    exact haged

theorem Work.ageSlot_overrunEntry (w : Work) (k : Nat) : (w.ageSlot k).overrunEntry = w.overrunEntry := by
  have drops (v : Work) : (if v.s.expireDue k then v.dropPeer k else v).overrunEntry = v.overrunEntry := by
    unfold Work.dropPeer
    split
    · split <;> rfl
    · rfl
  refine (drops (if w.s.staleDue k then w.on (·.makeStale k) else w)).trans ?_
  split <;> rfl

/-! ### Every slot aged -/

theorem Params.lost_append (p : Params) (now : Nat) (xs ys : List (Option PeerEntry)) :
    p.lost now (xs ++ ys) = p.lost now xs ++ p.lost now ys := by
  unfold Params.lost
  rw [List.filterMap_append, List.filterMap_append]

/-- The slots before the `n`th aged. -/
theorem Work.ageSlots (w : Work) (n : Nat) : let u := (List.range n).foldl Work.ageSlot w
    w.s.Aged u.s ((w.s.peers.slots.take n).map (·.bind (w.s.config.params.aged w.s.now)) ++ w.s.peers.slots.drop n)
      (w.s.config.params.lost w.s.now (w.s.peers.slots.take n)) ∧ u.overrunEntry = w.overrunEntry := by
  induction n with
  | zero => exact ⟨.refl, rfl⟩
  | succ n ih =>
    intro u
    let v := (List.range n).foldl Work.ageSlot w
    obtain ⟨hv, ho⟩ : w.s.Aged v.s _ _ ∧ v.overrunEntry = w.overrunEntry := ih
    have hu : u = v.ageSlot n := by
      show (List.range (n + 1)).foldl Work.ageSlot w = _
      rw [List.range_succ, foldl_append_singleton]
    refine ⟨?_, by rw [hu, Work.ageSlot_overrunEntry, ho]⟩
    rw [hu]
    obtain ⟨-, -, -, -, hconfig, -, -, -, -, hnow, -⟩ := State.body_eq_iff.mp hv.body
    by_cases hn : n < w.s.peers.slots.length
    · have htake := List.take_succ_eq_append_getElem hn
      have hdrop := List.drop_eq_getElem_cons hn
      have hlen : ((w.s.peers.slots.take n).map (·.bind (w.s.config.params.aged w.s.now))).length = n := by
        rw [List.length_map, List.length_take]
        omega
      have hslot : v.s.peers.slots[n]? = some w.s.peers.slots[n] := by
        rw [hv.peers]
        show (_ ++ _)[n]? = _
        rw [List.getElem?_append_right (by omega), hlen, Nat.sub_self, hdrop]
        rfl
      rw [htake, List.map_append, Params.lost_append, List.append_assoc]
      cases ho : w.s.peers.slots[n] with
      | none =>
        have he : v.s.peers.entryIn n = none := by
          rw [PeerTable.entryIn, hslot, ho]
          rfl
        rw [hdrop, ho] at hv
        rw [Work.ageSlot_of_empty he]
        have hnone : w.s.config.params.lost w.s.now [none] = [] := rfl
        rw [hnone, List.append_nil]
        exact hv
      | some e =>
        rw [ho] at hslot
        have hage := hv.trans (Work.ageSlot_of_entry hslot)
        rw [hv.peers, hconfig, hnow, hdrop] at hage
        rw [List.set_append_right n _ (Nat.le_of_eq hlen), hlen, Nat.sub_self] at hage
        exact hage
    · have he : v.s.peers.entryIn n = none := by
        have hlen : v.s.peers.slots.length ≤ n := by
          rw [hv.peers]
          show List.length (_ ++ _) ≤ n
          rw [List.length_append, List.length_map, List.length_take, List.length_drop]
          omega
        rw [PeerTable.entryIn, List.getElem?_eq_none hlen]
        rfl
      rw [Work.ageSlot_of_empty he]
      have hle : w.s.peers.slots.length ≤ n := Nat.le_of_not_lt hn
      rw [List.take_of_length_le hle, List.drop_eq_nil_of_le hle] at hv
      rw [List.take_of_length_le (Nat.le_succ_of_le hle), List.drop_eq_nil_of_le (Nat.le_succ_of_le hle)]
      exact hv

/-- Every slot aged at once. -/
theorem Work.ageAll_aged {w : Work} (h : w.s.peers.slots.length = 24) :
    w.s.Aged w.ageAll.s (w.s.peers.slots.map (·.bind (w.s.config.params.aged w.s.now)))
      (w.s.config.params.lost w.s.now w.s.peers.slots) := by
  have hall := (w.ageSlots 24).1
  rw [List.take_of_length_le (Nat.le_of_eq h), List.drop_eq_nil_of_le (Nat.le_of_eq h), List.append_nil] at hall
  exact hall

/-- The notice of every entry removed joins the outgoing order where there is room for all. -/
theorem Params.lost_queued {s : State} {p : Params} {e : PeerEntry} (he : e ∈ s.peers.entries)
    (hroom : s.link.notices.length + s.peers.entries.length ≤ 8) (hl : e.lastHeard + p.peerExpire ≤ s.now) :
    s.queued (s.link.queueAll (p.lost s.now s.peers.slots)) (.peerLost e.id e.occupiedCount false) := by
  have hpos : 0 < s.peers.entries.length := List.length_pos_of_mem he
  have hlen : (p.lost s.now s.peers.slots).length ≤ s.peers.entries.length := List.length_filterMap_le _ _
  have hmem : Notice.peerLost e.id e.occupiedCount false ∈ p.lost s.now s.peers.slots :=
    List.mem_filterMap.mpr ⟨e, he, if_pos hl⟩
  refine ⟨fun _ => ?_, fun h8 => by omega⟩
  show _ ∈ _ ++ _
  rw [List.take_of_length_le (by omega)]
  exact List.mem_append_right _ (List.mem_map_of_mem hmem)

end

end Sys2Proof.Machine

/-!
PROOF. What a new parameter does at once (R24, R68, R141, R176): its four effects in their order, and what each
leaves.
-/

namespace Sys2Proof.Machine

/-! ### The four effects -/

section
variable (w : Work) (old : Params)

/-- A new VEHICLE_LENGTH (R24, R25). -/
def Work.lengthEffect : Work :=
  if w.s.pos.start = true ∧ w.s.config.params.vehicleLength ≠ old.vehicleLength then w.lengthChanged else w

/-- A new FIX_GAP_MAX (R29). -/
def Work.gapEffect : Work :=
  if w.s.pos.start = true ∧ w.s.pos.sinceFix ≤ old.fixGapMax ∧ w.s.config.params.fixGapMax < w.s.pos.sinceFix then
    w.raise .positionLost
  else w

/-- A new PEER_STALE or PEER_EXPIRE (R68). -/
def Work.ageEffect : Work :=
  if w.s.config.params.peerStale ≠ old.peerStale ∨ w.s.config.params.peerExpire ≠ old.peerExpire then w.ageAll else w

/-- A new LISTEN_MS (R141). -/
def Work.listenEffect : Work :=
  if w.s.config.params.listenMs ≠ old.listenMs ∧ w.s.listenDue = true then w.listenExpired else w

theorem Work.paramEffects_eq :
    w.paramEffects old = (((w.lengthEffect old).gapEffect old).ageEffect old).listenEffect old := rfl

end

/-! ### What the effects leave -/

/-- The station stands in STOPPED by POSITION_LOST, which is not satisfied. -/
def ModeController.lost (m : ModeController) : Prop :=
  m.mode = .stopped ∧ m.line = .asserted ∧ m.causes.has .positionLost = true ∧ m.markPositionLost = false

/-- What every effect leaves, but where it queues a notice. -/
structure Work.Spares (w w' : Work) : Prop where
  pos : w'.s.pos = w.s.pos
  beacon : w'.s.beacon = w.s.beacon
  config : w'.s.config = w.s.config
  outside : w.s.sameOutside w'.s
  grows : w.s.link.Grows w'.s.link
  lost : w.s.ctl.lost → w'.s.ctl.lost

/-- What the effects before the listen timer leave of the listen period; they stop the station in LISTEN only
by POSITION_LOST. -/
structure Work.KeepsListen (w w' : Work) : Prop where
  timer : w'.s.ctl.listenFrom = w.s.ctl.listenFrom ∧ w'.s.ctl.listenDone = w.s.ctl.listenDone
  mode : w.s.ctl.mode = .listen ∨ w.s.ctl.lost → w'.s.ctl.mode = .listen ∨ w'.s.ctl.lost

section
variable {w w' w'' : Work}

theorem Work.Spares.refl : w.Spares w := ⟨rfl, rfl, rfl, ⟨rfl, rfl, rfl, rfl, rfl, rfl, rfl⟩, .refl, id⟩

theorem Work.Spares.trans (h : w.Spares w') (h' : w'.Spares w'') : w.Spares w'' :=
  ⟨h'.pos.trans h.pos, h'.beacon.trans h.beacon, h'.config.trans h.config,
    State.outside_eq_iff.mp ((State.outside_eq_iff.mpr h'.outside).trans (State.outside_eq_iff.mpr h.outside)),
    h.grows.trans h'.grows, h'.lost ∘ h.lost⟩

theorem Work.Spares.of_body (hb : w'.s.body = w.s.body) (hg : w.s.link.Grows w'.s.link)
    (hl : w.s.ctl.lost → w'.s.ctl.lost) : w.Spares w' := by
  obtain ⟨-, hpos, -, hbeacon, hconfig, hout⟩ := State.body_eq_iff.mp hb
  exact ⟨hpos, hbeacon, hconfig, hout, hg, hl⟩

theorem Work.KeepsListen.refl : w.KeepsListen w := ⟨⟨rfl, rfl⟩, id⟩

theorem Work.KeepsListen.trans (h : w.KeepsListen w') (h' : w'.KeepsListen w'') : w.KeepsListen w'' :=
  ⟨⟨h'.timer.1.trans h.timer.1, h'.timer.2.trans h.timer.2⟩, h'.mode ∘ h.mode⟩

theorem Work.KeepsListen.of_ctl (h : w'.s.ctl = w.s.ctl) : w.KeepsListen w' := by
  refine ⟨?_, ?_⟩ <;> rw [h]
  · exact ⟨rfl, rfl⟩
  · exact id

end

/-! ### A raise in LISTEN and STOPPED -/

theorem State.recordCause_lost {s : State} (h : s.ctl.lost) (c : Cause) : (s.recordCause c).ctl.lost := by
  obtain ⟨hmode, hline, hhas, hmark⟩ := h
  have hedit := (ModeController.Edit.mark (m := s.ctl) c).mode_line
  have hmarked : (s.ctl.clearMark c).markPositionLost = false := by
    cases c <;> simp [ModeController.clearMark, hmark]
  refine ⟨(s.recordCause_mode c).trans hmode, ?_, State.recordCause_keeps hhas c, ?_⟩
  · rw [State.recordCause_ctl]
    split <;> exact hedit.2.trans hline
  · rw [State.recordCause_ctl]
    split <;> exact hmarked

/-- A raise in STOPPED leaves the station lost. -/
theorem Work.raise_lost {w : Work} (h : w.s.ctl.lost) (c : Cause) : (w.raise c).s.ctl.lost := by
  rw [Work.raise_of_stopped h.1]
  exact State.recordCause_lost h c

/-- POSITION_LOST after start leads to STOPPED (R29). -/
theorem Work.raise_positionLost_lost {w : Work} (hm : w.s.ctl.mode = .listen ∨ w.s.ctl.lost) (hs : w.s.pos.start = true) :
    (w.raise .positionLost).s.ctl.lost := by
  obtain hm | hl := hm
  · have hstops : w.s.stopsOnRaise := (State.started_cases (by rw [hm]; decide) hs).resolve_right (by rw [hm]; decide)
    obtain ⟨hmode, hline, hhas⟩ := Work.raise_stopped (c := .positionLost) nofun hstops
    exact ⟨hmode, hline, hhas, w.raise_positionLost_marks.1⟩
  · exact Work.raise_lost hl _

theorem Work.raise_spares (w : Work) (c : Cause) : w.Spares (w.raise c) :=
  .of_body (w.raise_body c) (w.raise_grows c) fun h => Work.raise_lost h c

theorem Work.raise_positionLost_keepsListen {w : Work} (hs : w.s.pos.start = true) :
    w.KeepsListen (w.raise .positionLost) := by
  refine ⟨?_, fun hm => .inr (Work.raise_positionLost_lost hm hs)⟩
  obtain ⟨m, l, h, -⟩ := Work.raise_ctl (w := w) (c := .positionLost) nofun
  rw [h, State.recordCause_ctl]
  split <;> exact ⟨rfl, rfl⟩

/-- A list without TENTATIVE claims stays as it is (R144). -/
theorem Work.raise_claims_of_noneTentative {w : Work} {c : Cause} (hc : c ≠ .startConflict)
    (hn : noneTentative w.s.claims.list) : (w.raise c).s.claims = w.s.claims := by
  have hall : w.s.reserved = w.s.claims.list := List.filter_eq_self.mpr fun x hx => bne_iff_ne.mpr (hn x hx)
  by_cases h : w.s.stopsOnRaise
  · rw [(Work.raise_claims hc).1 h, hall]
  · exact (Work.raise_claims hc).2 h

/-! ### A position change outside SERVING -/

theorem Work.positionChange_spares (w : Work) : w.Spares w.positionChange := by
  obtain ⟨hlink, hpos, -, hbeacon, hconfig, hout⟩ := w.positionChange_rest
  refine ⟨hpos, hbeacon, hconfig, hout, ?_, fun h => ?_⟩
  · rw [hlink]
    exact .refl
  · rw [Work.positionChange_ctl]
    exact h

theorem State.enterEntry_setCtl (s : State) (m : ModeController) (i : Nat) (e : RouteEntry) :
    (s.setCtl m).enterEntry i e = ((s.enterEntry i e).1.setCtl m, (s.enterEntry i e).2) := by
  unfold State.enterEntry
  rw [show (s.setCtl m).claimAt i = s.claimAt i from rfl]
  split
  · rfl
  · by_cases hl : s.claims.list.length < Config.maxClaims
    · rw [if_pos hl]
      exact if_pos hl
    · rw [if_neg hl]
      exact if_neg hl

theorem enterUpTo_setCtl (front : Nat) (es : List RouteEntry) (i at_ : Nat) (s : State) (m : ModeController) :
    enterUpTo front es i at_ (s.setCtl m)
      = ((enterUpTo front es i at_ s).1.setCtl m, (enterUpTo front es i at_ s).2) := by
  induction es generalizing s i at_ with
  | nil => rfl
  | cons e es ih =>
    unfold enterUpTo
    split
    · rw [State.enterEntry_setCtl]
      dsimp only
      rw [ih]
    · rfl

theorem State.release_setCtl (s : State) (m : ModeController) : (s.setCtl m).release = s.release.setCtl m := by
  unfold State.release
  rw [show (s.setCtl m).rear? = s.rear? from rfl]
  split <;> rfl

/-- Outside SERVING the hand-on of a position change makes no claim ahead (R44). -/
theorem Work.positionChange_of_not_serving {w : Work} (hm : w.s.ctl.mode ≠ .serving) : w.positionChange.s =
    match w.s.front? with
    | none => w.s
    | some front => (enterUpTo front w.s.route.entries w.s.route.first 0 w.s).1.release := by
  unfold Work.positionChange
  cases w.s.front? with
  | none => rfl
  | some front =>
    obtain ⟨k, h⟩ := enterUpTo_claims front w.s.route.entries w.s.route.first 0 w.s
    obtain ⟨n, hn⟩ := (enterUpTo front w.s.route.entries w.s.route.first 0 w.s).1.release_spec
    refine State.claimAhead_of_not_serving ?_
    rw [hn, h]
    exact hm

/-- It does not read the mode then. -/
theorem Work.positionChange_setCtl {s : State} {m : ModeController}
    (hs : s.ctl.mode ≠ .serving) (hm : m.mode ≠ .serving) :
    (Work.positionChange { s := s.setCtl m }).s = (Work.positionChange { s := s }).s.setCtl m := by
  rw [Work.positionChange_of_not_serving (by exact hm), Work.positionChange_of_not_serving (by exact hs)]
  show (match s.front? with | none => _ | some front => _) = _
  cases s.front? with
  | none => rfl
  | some front =>
    show (enterUpTo front s.route.entries s.route.first 0 (s.setCtl m)).1.release = _
    rw [enterUpTo_setCtl, State.release_setCtl]

theorem Work.positionChange_noneTentative {w : Work} (hm : w.s.ctl.mode ≠ .serving)
    (hn : noneTentative w.s.claims.list) : noneTentative w.positionChange.s.claims.list := by
  rw [Work.positionChange_of_not_serving hm]
  cases w.s.front? with
  | none => exact hn
  | some front =>
    obtain ⟨n, h⟩ := (enterUpTo front w.s.route.entries w.s.route.first 0 w.s).1.release_spec
    dsimp only
    rw [h]
    exact (enterUpTo_reserved front _ _ _ hn).sublist (List.drop_sublist _ _)

/-! ### A new VEHICLE_LENGTH (R24, R25) -/

section
variable {w : Work}

/-- The raise a rear bound off the route leads to. -/
def Work.rearRaised (w : Work) : Work :=
  match w.s.rear? with
  | some rear => if rear < 0 then w.raise .positionLost else w
  | none => w

theorem Work.rearRaised_cases (w : Work) : w.rearRaised = w ∨ w.rearRaised = w.raise .positionLost := by
  unfold Work.rearRaised
  split
  · split
    · exact .inr rfl
    · exact .inl rfl
  · exact .inl rfl

theorem Work.lengthChanged_eq (w : Work) : w.lengthChanged = w.rearRaised.positionChange := rfl

/-- The hand-on of a new length, from any state alike: the raise before it changes nothing of it. -/
theorem Work.lengthChanged_moves {u : State} (h : u.Alike w.s) (hm : w.s.ctl.mode = .listen)
    (hn : noneTentative w.s.claims.list) :
    w.lengthChanged.s.route = (Work.positionChange { s := u }).s.route
      ∧ w.lengthChanged.s.reserved = (Work.positionChange { s := u }).s.reserved
      ∧ noneTentative w.lengthChanged.s.claims.list := by
  let v := w.rearRaised
  have hv : v.s.ctl.mode ≠ .serving ∧ (w.s.setCtl v.s.ctl).Alike v.s := by
    obtain hv | hv : v = w ∨ v = w.raise .positionLost := w.rearRaised_cases
    · rw [hv, hm]
      exact ⟨by decide, .refl⟩
    · obtain ⟨hroute, hpos, hpeers, -, hconfig, hout⟩ := State.body_eq_iff.mp (w.raise_body .positionLost)
      rw [hv]
      refine ⟨Work.raise_not_serving nofun, hroute, hpos,
        Work.raise_claims_of_noneTentative nofun hn, hpeers, hconfig, ?_, rfl, ?_⟩
      · exact hout.2.2.2.2.1
      · exact congrArg AuthorityUnit.overrun (Work.raise_auth nofun)
  have hmode : w.s.ctl.mode ≠ .serving := by
    rw [hm]
    decide
  have hclaims : noneTentative v.s.claims.list := by
    rw [hv.2.claims]
    exact hn
  have hmoved : (Work.positionChange { s := u }).s.Alike (Work.positionChange { s := w.s }).s :=
    (State.Alike.positionChange (w := { s := u }) (w' := { s := w.s }) h rfl).1
  have hraised : (Work.positionChange { s := w.s.setCtl v.s.ctl }).s.Alike (Work.positionChange { s := v.s }).s :=
    (State.Alike.positionChange (w := { s := w.s.setCtl v.s.ctl }) (w' := { s := v.s }) hv.2 rfl).1
  have hwork : v.positionChange.s = (Work.positionChange { s := v.s }).s := by
    rw [Work.positionChange_of_not_serving hv.1, Work.positionChange_of_not_serving (w := { s := v.s }) hv.1]
  rw [Work.positionChange_setCtl hmode hv.1] at hraised
  rw [Work.lengthChanged_eq]
  refine ⟨?_, ?_, Work.positionChange_noneTentative hv.1 hclaims⟩
  · rw [hwork, hraised.route]
    exact hmoved.route
  · rw [hwork, hraised.reserved]
    exact hmoved.reserved

theorem Work.lengthChanged_spares (w : Work) : w.Spares w.lengthChanged := by
  refine Work.Spares.trans ?_ w.rearRaised.positionChange_spares
  obtain h | h := w.rearRaised_cases <;> rw [h]
  · exact .refl
  · exact w.raise_spares _

theorem Work.lengthChanged_keepsListen (hs : w.s.pos.start = true) : w.KeepsListen w.lengthChanged := by
  refine Work.KeepsListen.trans ?_ (.of_ctl w.rearRaised.positionChange_ctl)
  obtain h | h := w.rearRaised_cases <;> rw [h]
  · exact .refl
  · exact Work.raise_positionLost_keepsListen hs

theorem Work.lengthChanged_peers (w : Work) : w.lengthChanged.s.peers = w.s.peers := by
  refine w.rearRaised.positionChange_rest.2.2.1.trans ?_
  obtain h | h := w.rearRaised_cases <;> rw [h]
  exact (State.body_eq_iff.mp (w.raise_body .positionLost)).2.2.1

/-- A rear bound off the route raises POSITION_LOST (R24). -/
theorem Work.lengthChanged_lost {rear : Int} (hs : w.s.pos.start = true) (hm : w.s.ctl.mode = .listen)
    (hr : w.s.rear? = some rear) (h0 : rear < 0) : w.lengthChanged.s.ctl.lost := by
  have h : w.rearRaised = w.raise .positionLost := by
    unfold Work.rearRaised
    rw [hr]
    exact if_pos h0
  refine w.rearRaised.positionChange_spares.lost ?_
  rw [h]
  exact Work.raise_positionLost_lost (.inl hm) hs

end

/-! ### The effects one by one -/

section
variable (w : Work) (old : Params)

theorem Work.lengthEffect_cases : w.lengthEffect old = w
    ∨ w.s.pos.start = true ∧ w.s.config.params.vehicleLength ≠ old.vehicleLength
      ∧ w.lengthEffect old = w.lengthChanged := by
  unfold Work.lengthEffect
  split
  next h => exact .inr ⟨h.1, h.2, rfl⟩
  next => exact .inl rfl

theorem Work.lengthEffect_leaves : w.Spares (w.lengthEffect old) ∧ w.KeepsListen (w.lengthEffect old)
    ∧ (w.lengthEffect old).s.peers = w.s.peers := by
  obtain h | ⟨hs, -, h⟩ := w.lengthEffect_cases old <;> rw [h]
  · exact ⟨.refl, .refl, rfl⟩
  · exact ⟨w.lengthChanged_spares, Work.lengthChanged_keepsListen hs, w.lengthChanged_peers⟩

theorem Work.gapEffect_cases : w.gapEffect old = w
    ∨ w.s.pos.start = true ∧ w.gapEffect old = w.raise .positionLost := by
  unfold Work.gapEffect
  split
  next h => exact .inr ⟨h.1, rfl⟩
  next => exact .inl rfl

theorem Work.gapEffect_leaves : w.Spares (w.gapEffect old) ∧ w.KeepsListen (w.gapEffect old)
    ∧ (w.gapEffect old).s.peers = w.s.peers ∧ (w.gapEffect old).s.route = w.s.route
    ∧ (noneTentative w.s.claims.list → (w.gapEffect old).s.claims = w.s.claims) := by
  obtain h | ⟨hs, h⟩ := w.gapEffect_cases old <;> rw [h]
  · exact ⟨.refl, .refl, rfl, rfl, fun _ => rfl⟩
  · obtain ⟨hroute, -, hpeers, -⟩ := State.body_eq_iff.mp (w.raise_body .positionLost)
    exact ⟨w.raise_spares _, Work.raise_positionLost_keepsListen hs, hpeers, hroute,
      Work.raise_claims_of_noneTentative nofun⟩

/-- A distance since fix above the new FIX_GAP_MAX raises POSITION_LOST (R29). -/
theorem Work.gapEffect_lost {w : Work} {old : Params} (hm : w.s.ctl.mode = .listen ∨ w.s.ctl.lost)
    (hs : w.s.pos.start = true) (hold : w.s.pos.sinceFix ≤ old.fixGapMax)
    (hnew : w.s.config.params.fixGapMax < w.s.pos.sinceFix) : (w.gapEffect old).s.ctl.lost := by
  have h : w.gapEffect old = w.raise .positionLost := if_pos ⟨hs, hold, hnew⟩
  rw [h]
  exact Work.raise_positionLost_lost hm hs

theorem DriveLink.queueAll_grows (l : DriveLink) (ns : List Notice) : l.Grows (l.queueAll ns) :=
  ⟨rfl, ⟨_, rfl⟩, rfl, fun h => by
    show (l.latched.noticeOverflow || _) = true
    rw [h, Bool.true_or]⟩

/-- The ageing leaves all but the slots, and promotes nothing without TENTATIVE claims. -/
theorem Work.ageEffect_leaves : w.Spares (w.ageEffect old) ∧ w.KeepsListen (w.ageEffect old)
    ∧ (w.ageEffect old).s.route = w.s.route
    ∧ (noneTentative w.s.claims.list → (w.ageEffect old).s.claims = w.s.claims) := by
  unfold Work.ageEffect
  split
  · obtain ⟨h, -⟩ := w.ageSlots 24
    have h : w.s.Aged w.ageAll.s _ _ := h
    obtain ⟨hroute, hpos, -, hbeacon, hconfig, hout⟩ := State.body_eq_iff.mp h.body
    refine ⟨⟨hpos, hbeacon, hconfig, hout, ?_, fun hl => ?_⟩, .of_ctl h.ctl, hroute, h.claims⟩
    · rw [h.link]
      exact w.s.link.queueAll_grows _
    · rw [h.ctl]
      exact hl
  · exact ⟨.refl, .refl, rfl, fun _ => rfl⟩

theorem Work.listenExpired_leaves : w.Spares w.listenExpired ∧ w.listenExpired.s.peers = w.s.peers
    ∧ w.listenExpired.s.route = w.s.route ∧ w.listenExpired.s.reserved = w.s.reserved := by
  let v := w.on fun s => s.setCtl s.ctl.listened
  have hbody : w.listenExpired.s.body = w.s.body := v.listenExit_body
  obtain ⟨hroute, -, hpeers, -⟩ := State.body_eq_iff.mp hbody
  refine ⟨.of_body hbody v.listenExit_grows fun hl => ?_, hpeers, hroute, v.listenExit_reserved⟩
  have hidle : w.listenExpired = v := Work.listenExit_of_idle fun h => absurd (hl.1.symm.trans h.1) (by decide)
  rw [hidle]
  exact hl

theorem Work.listenEffect_leaves : w.Spares (w.listenEffect old) ∧ (w.listenEffect old).s.peers = w.s.peers
    ∧ (w.listenEffect old).s.route = w.s.route ∧ (w.listenEffect old).s.reserved = w.s.reserved := by
  unfold Work.listenEffect
  split
  · exact w.listenExpired_leaves
  · exact ⟨.refl, rfl, rfl, rfl⟩

end

/-- The listen period ends: before start in LISTEN, after it in SERVING or STOPPED (R141, R142). -/
theorem Work.listenExpired_ends {w : Work} (hm : w.s.ctl.mode = .listen ∨ w.s.ctl.lost) :
    w.listenExpired.s.ctl.listenFrom = none ∧ w.listenExpired.s.ctl.listenDone = true
      ∧ (w.s.ctl.mode = .listen → w.s.pos.start = false → w.listenExpired.s.ctl.mode = .listen
        ∧ w.listenExpired.overrunEntry = w.overrunEntry)
      ∧ (w.s.pos.start = true → w.listenExpired.s.ctl.mode = .serving ∨ w.listenExpired.s.ctl.mode = .stopped) := by
  let v := w.on fun s => s.setCtl s.ctl.listened
  by_cases hidle : w.s.ctl.mode = .listen ∧ w.s.pos.start = true
  · obtain ⟨hmode, hs⟩ := hidle
    cases hc : w.s.ctl.causes.isEmpty with
    | true =>
      rw [Work.listenExpired_serves hmode hs hc, Work.enterServing_ctl]
      exact ⟨rfl, rfl, fun _ h => absurd (hs.symm.trans h) nofun, fun _ => .inl rfl⟩
    | false =>
      rw [Work.listenExpired_stops hmode hs hc, Work.enterStopped_ctl]
      exact ⟨rfl, rfl, fun _ h => absurd (hs.symm.trans h) nofun, fun _ => .inr rfl⟩
  · have hv : w.listenExpired = v := Work.listenExit_of_idle hidle
    rw [hv]
    exact ⟨rfl, rfl, fun h _ => ⟨h, rfl⟩, fun hs => .inr (hm.resolve_left fun h => hidle ⟨h, hs⟩).1⟩

theorem State.listenDue_iff {s : State} {entered : Nat} (h : s.ctl.listenFrom = some entered) :
    s.listenDue = true ↔ entered + s.config.params.listenMs ≤ s.now := by
  unfold State.listenDue
  rw [h]
  exact decide_eq_true_iff

/-! ### The end of the event -/

section
variable {w : Work} {before t : State}

theorem Work.settle_closes_lost (hl : w.s.ctl.lost) (h : (w.settle before).s.Closes t) : t.ctl.lost := by
  have hm : w.s.ctl.mode ≠ .serving := by
    rw [hl.1]
    decide
  cases ho : w.overrunEntry with
  | false =>
    rw [Work.settle_closes_ctl ho hm h]
    exact hl
  | true =>
    have howes : w.owes before = true := by
      unfold Work.owes
      rw [ho, Bool.or_true, Bool.true_or, Bool.true_or]
    unfold Work.settle at h
    rw [if_pos howes, Work.recomputeNow_entry ho] at h
    rw [h.ctl]
    exact Work.raise_lost (w := w.on fun s => s.setAuth { s.auth with overrun := true }) hl .overrun

theorem Work.settle_closes_timer (h : (w.settle before).s.Closes t) :
    t.ctl.listenFrom = w.s.ctl.listenFrom ∧ t.ctl.listenDone = w.s.ctl.listenDone := by
  obtain ⟨m, l, k, f, hs⟩ := w.settle_ctl before
  rw [h.ctl, hs]
  exact ⟨rfl, rfl⟩

/-- A recomputation in SERVING or STOPPED ends in SERVING or STOPPED (R115). -/
theorem Work.settle_closes_mode (hm : w.s.ctl.mode = .serving ∨ w.s.ctl.mode = .stopped)
    (h : (w.settle before).s.Closes t) : t.ctl.mode = .serving ∨ t.ctl.mode = .stopped := by
  unfold Work.settle at h
  split at h
  next =>
    cases ho : w.overrunEntry with
    | true =>
      rw [Work.recomputeNow_entry ho] at h
      rw [h.ctl]
      exact .inr (w.raiseOverrun_spec.2.2.1 (hm.imp_left State.stopsOnRaise_of_serving))
    | false =>
      obtain ⟨hother, hfits, hover⟩ := Work.recomputedInto_of_closes ho h
      by_cases hserv : w.s.ctl.mode = .serving
      · by_cases hf : w.s.fits
        · rw [(hfits hserv hf).1]
          exact hm
        · exact .inr (hover hserv hf).1.1
      · rw [(hother hserv).1]
        exact hm
  next =>
    rw [h.ctl]
    exact hm

end

end Sys2Proof.Machine

/-!
PROOF. SET_PARAM and SET_CLASS (R2, R24, R68, R141, R176, R177).
-/

namespace Sys2Proof.Machine

/-- A parameter that changes the ageing, from good parameters, changes neither VEHICLE_LENGTH nor FIX_GAP_MAX:
their floors hold already (R174). -/
theorem Params.put_ages {p : Params} (hok : p.ok) (i : ParamId) (v : Nat)
    (h : (raiseFloors (p.put v i)).1.peerStale ≠ p.peerStale ∨ (raiseFloors (p.put v i)).1.peerExpire ≠ p.peerExpire) :
    (raiseFloors (p.put v i)).1.vehicleLength = p.vehicleLength
      ∧ (raiseFloors (p.put v i)).1.fixGapMax = p.fixGapMax := by
  obtain ⟨-, -, hstale, -⟩ := hok
  have hsame : max p.peerStale (3 * p.beaconPeriod + p.beaconJitter + 50) = p.peerStale := Nat.max_eq_left hstale
  cases i with
  | vehicleLength => exact absurd h (not_or.mpr ⟨Classical.not_not.mpr hsame, Classical.not_not.mpr rfl⟩)
  | fixGapMax => exact absurd h (not_or.mpr ⟨Classical.not_not.mpr hsame, Classical.not_not.mpr rfl⟩)
  | _ => exact ⟨rfl, rfl⟩

/-! ### The effects of a stored parameter -/

section
variable (s : State) (i : ParamId) (v : Nat)

/-- The state with a parameter stored, before its effects. -/
def State.storedParam : State := s.setConfig (s.config.store i v)

/-- The work of a parameter stored. -/
def State.paramWork : Work := (Work.begin (s.storedParam i v)).paramEffects s.config.params

/-- The work after the effects of a new VEHICLE_LENGTH. -/
def State.lengthWork : Work := (Work.begin (s.storedParam i v)).lengthEffect s.config.params

/-- The work after the effects that may raise POSITION_LOST. -/
def State.raisedWork : Work := (s.lengthWork i v).gapEffect s.config.params

/-- The work after the ageing. -/
def State.agedWork : Work := (s.raisedWork i v).ageEffect s.config.params

theorem State.paramWork_eq : s.paramWork i v = (s.agedWork i v).listenEffect s.config.params := rfl

/-- The stages leave the configuration stored and keep what each effect keeps. -/
theorem State.raisedWork_spares : (Work.begin (s.storedParam i v)).Spares (s.raisedWork i v)
    ∧ (Work.begin (s.storedParam i v)).KeepsListen (s.raisedWork i v) ∧ (s.raisedWork i v).s.peers = s.peers := by
  obtain ⟨hs, hk, hp⟩ := (Work.begin (s.storedParam i v)).lengthEffect_leaves s.config.params
  obtain ⟨hs', hk', hp', -⟩ := (s.lengthWork i v).gapEffect_leaves s.config.params
  exact ⟨hs.trans hs', hk.trans hk', hp'.trans hp⟩

theorem State.agedWork_spares : (Work.begin (s.storedParam i v)).Spares (s.agedWork i v)
    ∧ (Work.begin (s.storedParam i v)).KeepsListen (s.agedWork i v) := by
  obtain ⟨hs, hk, -⟩ := s.raisedWork_spares i v
  obtain ⟨hs', hk', -⟩ := (s.raisedWork i v).ageEffect_leaves s.config.params
  exact ⟨hs.trans hs', hk.trans hk'⟩

theorem State.paramWork_spares : (Work.begin (s.storedParam i v)).Spares (s.paramWork i v) :=
  (s.agedWork_spares i v).1.trans ((s.agedWork i v).listenEffect_leaves s.config.params).1

/-- Route and reserved claims are those that a new VEHICLE_LENGTH leads to. -/
theorem State.paramWork_route : (s.paramWork i v).s.route = (s.lengthWork i v).s.route
    ∧ (noneTentative (s.lengthWork i v).s.claims.list →
      (s.paramWork i v).s.reserved = (s.lengthWork i v).s.reserved) := by
  obtain ⟨-, -, -, hroute, hclaims⟩ := (s.lengthWork i v).gapEffect_leaves s.config.params
  obtain ⟨-, -, hroute', hclaims'⟩ := (s.raisedWork i v).ageEffect_leaves s.config.params
  obtain ⟨-, -, hroute'', hres⟩ := (s.agedWork i v).listenEffect_leaves s.config.params
  refine ⟨hroute''.trans (hroute'.trans hroute), fun hn => hres.trans ?_⟩
  have h1 : (s.raisedWork i v).s.claims = (s.lengthWork i v).s.claims := hclaims hn
  have h2 : (s.agedWork i v).s.claims = (s.lengthWork i v).s.claims := (hclaims' (h1 ▸ hn)).trans h1
  rw [State.reserved, State.reserved, h2]

end

section
variable {s t before : State} {i : ParamId} {v : Nat}
variable (hm : s.ctl.mode = .listen) (h : ((s.paramWork i v).settle before).s.Closes t)

include h in
theorem State.param_leaves : t.pos = s.pos ∧ t.beacon = s.beacon
    ∧ t.config = s.config.store i v ∧ s.sameOutside t := by
  obtain ⟨-, hpos, -, hbeacon, hconfig, hout⟩ := State.body_eq_iff.mp (Work.settle_closes_body h)
  have hs := s.paramWork_spares i v
  exact ⟨hpos.trans hs.pos, hbeacon.trans hs.beacon, hconfig.trans hs.config,
    State.outside_eq_iff.mp ((State.outside_eq_iff.mpr hout).trans (State.outside_eq_iff.mpr hs.outside))⟩

include h in
theorem State.param_route (hl : (s.config.store i v).params.vehicleLength = s.config.params.vehicleLength) :
    t.route = s.route := by
  have hw : s.lengthWork i v = Work.begin (s.storedParam i v) := if_neg fun hc => hc.2 hl
  refine (State.body_eq_iff.mp (Work.settle_closes_body h)).1.trans ((s.paramWork_route i v).1.trans ?_)
  rw [hw]
  rfl

theorem State.lengthWork_eq (hs : s.pos.start = true)
    (hl : (s.config.store i v).params.vehicleLength ≠ s.config.params.vehicleLength) :
    s.lengthWork i v = (Work.begin (s.storedParam i v)).lengthChanged := if_pos ⟨hs, hl⟩

include hm h in
/-- A rear bound off the route (R24). -/
theorem State.param_rearOff (hs : s.pos.start = true)
    (hl : (s.config.store i v).params.vehicleLength ≠ s.config.params.vehicleLength) {rear : Int}
    (hr : (s.storedParam i v).rear? = some rear) (h0 : rear < 0) : t.ctl.lost := by
  refine Work.settle_closes_lost ?_ h
  refine ((s.agedWork i v).listenEffect_leaves s.config.params).1.lost
    (((s.raisedWork i v).ageEffect_leaves s.config.params).1.lost
      (((s.lengthWork i v).gapEffect_leaves s.config.params).1.lost ?_))
  rw [State.lengthWork_eq hs hl]
  exact Work.lengthChanged_lost (w := Work.begin (s.storedParam i v)) hs hm hr h0

include hm h in
/-- The hand-on of a new VEHICLE_LENGTH (R25). -/
theorem State.param_moves (hs : s.pos.start = true)
    (hl : (s.config.store i v).params.vehicleLength ≠ s.config.params.vehicleLength) {u : State}
    (hu : u.Alike (s.storedParam i v)) (hn : noneTentative s.claims.list) :
    t.route = (Work.positionChange { s := u }).s.route ∧ t.reserved = (Work.positionChange { s := u }).s.reserved := by
  obtain ⟨hroute, hres, hnone⟩ := Work.lengthChanged_moves (w := Work.begin (s.storedParam i v)) hu hm hn
  rw [← State.lengthWork_eq hs hl] at hroute hres hnone
  obtain ⟨hr, hk⟩ := s.paramWork_route i v
  exact ⟨(State.body_eq_iff.mp (Work.settle_closes_body h)).1.trans (hr.trans hroute),
    (Work.settle_closes_reserved h).trans ((hk hnone).trans hres)⟩

include hm h in
/-- A new FIX_GAP_MAX (R29). -/
theorem State.param_gap (hs : s.pos.start = true) (hold : s.pos.sinceFix ≤ s.config.params.fixGapMax)
    (hnew : (s.config.store i v).params.fixGapMax < s.pos.sinceFix) : t.ctl.lost := by
  obtain ⟨hsp, hk, -⟩ := (Work.begin (s.storedParam i v)).lengthEffect_leaves s.config.params
  have hpos : (s.lengthWork i v).s.pos = s.pos := hsp.pos
  have hconfig : (s.lengthWork i v).s.config = s.config.store i v := hsp.config
  have hlost : (s.raisedWork i v).s.ctl.lost :=
    Work.gapEffect_lost (hk.mode (.inl hm)) (by rw [hpos]; exact hs) (by rw [hpos]; exact hold)
      (by rw [hpos, hconfig]; exact hnew)
  exact Work.settle_closes_lost (((s.agedWork i v).listenEffect_leaves s.config.params).1.lost
    (((s.raisedWork i v).ageEffect_leaves s.config.params).1.lost hlost)) h

include h in
theorem State.param_peers_kept (hage : ¬ ((s.config.store i v).params.peerStale ≠ s.config.params.peerStale
    ∨ (s.config.store i v).params.peerExpire ≠ s.config.params.peerExpire)) : t.peers = s.peers := by
  obtain ⟨hsp, -, hpeers⟩ := s.raisedWork_spares i v
  have hconfig : (s.raisedWork i v).s.config = s.config.store i v := hsp.config
  have hw : s.agedWork i v = s.raisedWork i v := if_neg (by rw [hconfig]; exact hage)
  refine (State.body_eq_iff.mp (Work.settle_closes_body h)).2.2.1.trans
    (((s.agedWork i v).listenEffect_leaves s.config.params).2.1.trans ?_)
  rw [hw, hpeers]

/-- The entries aged by the new times (R68). -/
theorem State.agedWork_aged (hlen : s.peers.slots.length = 24)
    (hage : (s.config.store i v).params.peerStale ≠ s.config.params.peerStale
      ∨ (s.config.store i v).params.peerExpire ≠ s.config.params.peerExpire) :
    (s.raisedWork i v).s.Aged (s.agedWork i v).s
      (s.peers.slots.map (·.bind ((s.config.store i v).params.aged s.now)))
      ((s.config.store i v).params.lost s.now s.peers.slots) := by
  obtain ⟨hsp, -, hpeers⟩ := s.raisedWork_spares i v
  have hconfig : (s.raisedWork i v).s.config = s.config.store i v := hsp.config
  obtain ⟨-, -, -, -, hnow, -⟩ := hsp.outside
  have hw : s.agedWork i v = (s.raisedWork i v).ageAll := if_pos (by rw [hconfig]; exact hage)
  have haged := Work.ageAll_aged (w := s.raisedWork i v) (by rw [hpeers]; exact hlen)
  rw [← hw, hpeers, hconfig, hnow] at haged
  exact haged

include h in
theorem State.param_peers_aged (hlen : s.peers.slots.length = 24)
    (hage : (s.config.store i v).params.peerStale ≠ s.config.params.peerStale
      ∨ (s.config.store i v).params.peerExpire ≠ s.config.params.peerExpire) :
    t.peers = { s.peers with slots := s.peers.slots.map (·.bind ((s.config.store i v).params.aged s.now)) } := by
  refine (State.body_eq_iff.mp (Work.settle_closes_body h)).2.2.1.trans
    (((s.agedWork i v).listenEffect_leaves s.config.params).2.1.trans ((State.agedWork_aged hlen hage).peers.trans ?_))
  rw [(s.raisedWork_spares i v).2.2]

include h in
/-- The notices of the entries removed, where there is room for all (R80). -/
theorem State.param_noticed (hlen : s.peers.slots.length = 24)
    (hage : (s.config.store i v).params.peerStale ≠ s.config.params.peerStale
      ∨ (s.config.store i v).params.peerExpire ≠ s.config.params.peerExpire)
    (hok : s.config.params.ok) (hroom : s.link.notices.length + s.peers.entries.length ≤ 8) {e : PeerEntry}
    (he : e ∈ s.peers.entries) (hl : e.lastHeard + (s.config.store i v).params.peerExpire ≤ s.now) :
    s.noticed t (.peerLost e.id e.occupiedCount false) := by
  obtain ⟨hlength, hgap⟩ := Params.put_ages hok i (i.clamp v) hage
  have h1 : s.lengthWork i v = Work.begin (s.storedParam i v) := if_neg fun hc => hc.2 hlength
  have h2 : s.raisedWork i v = Work.begin (s.storedParam i v) := by
    unfold State.raisedWork
    rw [h1]
    refine if_neg fun hc => absurd hc.2.2 (Nat.not_lt.mpr ?_)
    exact Nat.le_trans hc.2.1 (Nat.le_of_eq hgap.symm)
  have haged := (State.agedWork_aged hlen hage).link
  rw [h2] at haged
  have hq : s.queued (s.agedWork i v).s.link (.peerLost e.id e.occupiedCount false) := by
    rw [haged]
    exact Params.lost_queued he hroom hl
  exact (hq.grows ((s.agedWork i v).listenEffect_leaves s.config.params).1.grows).settled h rfl

theorem State.agedWork_due {entered : Nat} (hf : s.ctl.listenFrom = some entered) :
    (s.agedWork i v).s.listenDue = true ↔ entered + (s.config.store i v).params.listenMs ≤ s.now := by
  obtain ⟨hsp, hk⟩ := s.agedWork_spares i v
  have hconfig : (s.agedWork i v).s.config = s.config.store i v := hsp.config
  obtain ⟨-, -, -, -, hnow, -⟩ := hsp.outside
  rw [State.listenDue_iff (hk.timer.1.trans hf), hconfig, hnow]
  rfl

/-- Before start the effects raise nothing. -/
theorem State.raisedWork_waiting (hs : s.pos.start = false) : s.raisedWork i v = Work.begin (s.storedParam i v) := by
  have hno : ¬ s.pos.start = true := Bool.eq_false_iff.mp hs
  have h1 : s.lengthWork i v = Work.begin (s.storedParam i v) := if_neg fun hc => hno hc.1
  unfold State.raisedWork
  rw [h1]
  exact if_neg fun hc => hno hc.1

include hm in
theorem State.agedWork_waiting (hs : s.pos.start = false) :
    (s.agedWork i v).s.ctl.mode = .listen ∧ (s.agedWork i v).overrunEntry = false := by
  unfold State.agedWork Work.ageEffect
  rw [State.raisedWork_waiting hs]
  split
  · obtain ⟨haged, ho⟩ := (Work.begin (s.storedParam i v)).ageSlots 24
    have haged : (Work.begin (s.storedParam i v)).s.Aged (Work.begin (s.storedParam i v)).ageAll.s _ _ := haged
    exact ⟨(congrArg ModeController.mode haged.ctl).trans hm, ho⟩
  · exact ⟨hm, rfl⟩

include hm h in
/-- A new LISTEN_MS that has passed ends the listen period (R141). -/
theorem State.param_listenEnds {entered : Nat} (hf : s.ctl.listenFrom = some entered)
    (hnew : (s.config.store i v).params.listenMs ≠ s.config.params.listenMs)
    (hd : entered + (s.config.store i v).params.listenMs ≤ s.now) :
    t.ctl.listenFrom = none ∧ t.ctl.listenDone = true ∧ (s.pos.start = false → t.ctl.mode = .listen)
      ∧ (s.pos.start = true → t.ctl.mode = .serving ∨ t.ctl.mode = .stopped) := by
  obtain ⟨hsp, hk⟩ := s.agedWork_spares i v
  have hconfig : (s.agedWork i v).s.config = s.config.store i v := hsp.config
  have hpos : (s.agedWork i v).s.pos = s.pos := hsp.pos
  have hw : s.paramWork i v = (s.agedWork i v).listenExpired :=
    (s.paramWork_eq i v).trans (if_pos ⟨by rw [hconfig]; exact hnew, (State.agedWork_due hf).mpr hd⟩)
  obtain ⟨hfrom, hdone, hwait, hstart⟩ := Work.listenExpired_ends (hk.mode (.inl hm))
  rw [hpos] at hwait hstart
  rw [hw] at h
  obtain ⟨htf, htd⟩ := Work.settle_closes_timer h
  refine ⟨htf.trans hfrom, htd.trans hdone, fun hs => ?_, fun hs => Work.settle_closes_mode (hstart hs) h⟩
  obtain ⟨hmode, ho⟩ := State.agedWork_waiting (i := i) (v := v) hm hs
  obtain ⟨hl, hover⟩ := hwait hmode hs
  rw [Work.settle_closes_ctl (hover.trans ho) (by rw [hl]; decide) h]
  exact hl

include h in
theorem State.param_listens {entered : Nat} (hf : s.ctl.listenFrom = some entered)
    (hd : s.now < entered + (s.config.store i v).params.listenMs) :
    t.ctl.listenFrom = some entered ∧ t.ctl.listenDone = s.ctl.listenDone := by
  have hw : s.paramWork i v = s.agedWork i v :=
    (s.paramWork_eq i v).trans (if_neg fun hc => absurd ((State.agedWork_due hf).mp hc.2) (Nat.not_le.mpr hd))
  obtain ⟨-, hk⟩ := s.agedWork_spares i v
  rw [hw] at h
  obtain ⟨htf, htd⟩ := Work.settle_closes_timer h
  exact ⟨htf.trans (hk.timer.1.trans hf), htd.trans hk.timer.2⟩

/-- Before start, and with the ageing and listen times as they were, a stored parameter has no effect at once. -/
theorem State.paramWork_plain (hs : s.pos.start = false)
    (hstale : (s.config.store i v).params.peerStale = s.config.params.peerStale)
    (hexpire : (s.config.store i v).params.peerExpire = s.config.params.peerExpire)
    (hlisten : (s.config.store i v).params.listenMs = s.config.params.listenMs) :
    s.paramWork i v = Work.begin (s.storedParam i v) := by
  have h3 : s.agedWork i v = Work.begin (s.storedParam i v) := by
    unfold State.agedWork
    rw [State.raisedWork_waiting hs]
    exact if_neg fun hc => hc.elim (· hstale) (· hexpire)
  rw [State.paramWork_eq, h3]
  exact if_neg fun hc => hc.1 hlisten

end

/-! ### The two requests -/

/-- Refused and latched outside LISTEN (R176, R177). -/
theorem State.request_locked {s : State} {type : Byte} {n : Nat} {payload : List Byte} {f : Work → Answer}
    (h : s.readyFor ⟨type, payload⟩) (hm : s.ctl.mode ≠ .init) (hn : payload.length = n)
    (hf : f (Work.begin s.taken) = (Work.begin s.taken).lockedOut) :
    (.next (s.request type n payload f) : Result) = .next ((s.latch .configWriteRefused).replied type .locked []) :=
  State.request_plain (t := s.taken.latch .configWriteRefused) h hm hn hf rfl
    (show s.taken.noticesComplete from State.taken_complete h)

theorem Work.setParam_locked {w : Work} (hm : w.s.ctl.mode ≠ .listen) (i : Byte) (v : Nat) :
    w.setParam i v = w.lockedOut := if_pos hm

theorem ParamId.ofByte_of_index {i : Byte} {p : ParamId} (h : i.toNat = ParamId.all.idxOf p + 1) :
    ParamId.ofByte i = some p := by
  have hbyte : i = byteOf (ParamId.all.idxOf p + 1) := by
    rw [← h]
    simp [byteOf]
  rw [hbyte]
  exact p.ofByte_index

theorem Work.setParam_malformed {w : Work} (hm : w.s.ctl.mode = .listen) {i : Byte}
    (hi : i = 0#8 ∨ 17 < i.toNat) (v : Nat) :
    w.setParam i v = w.answer .malformed := by
  unfold Work.setParam
  rw [if_neg (Classical.not_not.mpr hm)]
  by_cases h18 : i.toNat = 18
  · rw [ParamId.ofByte_of_index (p := .linkRate) (h18.trans (by decide))]
    rfl
  · rw [ParamId.ofByte_eq_none (hi.imp_right (by omega))]

theorem State.setParam_stored {s : State} (hm : s.ctl.mode = .listen) {i : Byte} {p : ParamId}
    (hi : i.toNat = ParamId.all.idxOf p + 1) (hp : p ≠ .linkRate) (v : Nat) : (Work.begin s).setParam i v
      = ⟨s.paramWork p v, if s.config.storeClamps p v then .doneClamped else .done, []⟩ := by
  unfold Work.setParam
  rw [if_neg (show ¬ (Work.begin s).s.ctl.mode ≠ .listen from Classical.not_not.mpr hm), ParamId.ofByte_of_index hi]
  exact if_neg hp

theorem Work.setClass_locked {w : Work} (hm : w.s.ctl.mode ≠ .listen) (k : Byte) (cap : Half) (f : Byte) (hold : Half) :
    w.setClass k cap f hold = w.lockedOut := if_pos hm

theorem Work.setClass_malformed {w : Work} (hm : w.s.ctl.mode = .listen) {k : Byte} (hk : 15 < k.toNat) (cap : Half)
    (f : Byte) (hold : Half) : w.setClass k cap f hold = w.answer .malformed := by
  unfold Work.setClass
  rw [if_neg (Classical.not_not.mpr hm), if_pos hk]

theorem classEntry_eq (cap : Half) (f : Byte) (hold : Half) : classEntry cap f hold
    = (⟨max 50 (min 1000 cap.toNat), f.getLsbD 0, f.getLsbD 1, min 2000 hold.toNat⟩,
      decide (cap.toNat < 50 ∨ 1000 < cap.toNat ∨ 2000 < hold.toNat)) := by
  have hh : clampTo 0 2000 hold.toNat = min 2000 hold.toNat := Nat.zero_max _
  have hd : (clampTo 50 1000 cap.toNat ≠ cap.toNat ∨ min 2000 hold.toNat ≠ hold.toNat)
      ↔ cap.toNat < 50 ∨ 1000 < cap.toNat ∨ 2000 < hold.toNat := by
    unfold clampTo
    omega
  unfold classEntry
  rw [hh]
  exact Prod.ext rfl (decide_eq_decide.mpr hd)

theorem Work.setClass_stored {w : Work} (hm : w.s.ctl.mode = .listen) {k : Byte} (hk : k.toNat ≤ 15) (cap : Half)
    (f : Byte) (hold : Half) : w.setClass k cap f hold = (w.on fun s => s.setConfig { s.config with
      classes := s.config.classes.set k.toNat (classEntry cap f hold).1
      clamped := s.config.clamped || (classEntry cap f hold).2 }).answer
        (if (classEntry cap f hold).2 then .doneClamped else .done) := by
  unfold Work.setClass
  rw [if_neg (Classical.not_not.mpr hm)]
  exact if_neg (Nat.not_lt.mpr hk)

/-- The loader's items with a parameter stored, and whether it was limited (R176). -/
theorem ConfigLoader.store_eq (c : ConfigLoader) (p : ParamId) (v : Nat) :
    let raised := raiseFloors (c.params.put (max p.range.1 (min p.range.2 v)) p)
    let limited : Bool := decide (max p.range.1 (min p.range.2 v) ≠ v) || raised.2
    c.store p v = { c with
        params := raised.1
        horizon := raised.1.stopping raised.1.maxSpeed + raised.1.margin
        clamped := c.clamped || limited }
      ∧ c.storeClamps p v = limited := by
  intro raised limited
  have hclamp : (p.clamp v != v) = decide (max p.range.1 (min p.range.2 v) ≠ v) :=
    (Bool.decide_coe _).symm.trans (decide_eq_decide.mpr bne_iff_ne)
  have hl : c.storeClamps p v = limited := congrArg (· || raised.2) hclamp
  have hor : (c.clamped || p.clamp v != v || raised.2) = (c.clamped || limited) :=
    (Bool.or_assoc ..).trans (congrArg (c.clamped || ·) hl)
  exact ⟨congrArg (fun x : Bool => ({ c with
    params := raised.1, horizon := raised.1.horizon, clamped := x } : ConfigLoader)) hor, hl⟩

/-- Settles O46: the effects of a stored parameter one by one, each leaving what the others did. -/
theorem configurationRequestsStoreClamped : Obligations.ConfigurationRequestsStoreClamped := by
  refine ⟨fun s i a b c d hm h => ?_, fun s k c1 c0 f h1 h0 hm h => ?_⟩
  · intro v
    refine ⟨fun hl => State.request_locked h hm rfl (Work.setParam_locked (w := Work.begin s.taken) hl i v),
      fun hl hi => State.request_answers h hm rfl (Work.setParam_malformed (w := Work.begin s.taken) hl hi v),
      fun p hl hi hp => ?_⟩
    intro w raised limited code config
    obtain ⟨hstore, hclamps⟩ : s.config.store p v = config ∧ s.config.storeClamps p v = limited :=
      s.config.store_eq p v
    have hparams : (s.config.store p v).params = raised.1 := rfl
    have hset := State.setParam_stored (s := s.taken) hl hi hp v
    have hcode : (if s.config.storeClamps p v then .doneClamped else .done) = code := by rw [hclamps]
    clear_value config code limited raised w
    obtain rfl := hstore
    rw [← hparams]
    refine ⟨?_, fun hs hstale hexpire hlisten => ?_⟩
    · let g : Work → Answer := fun w => w.setParam i v
      have hclose : ((s.taken.paramWork p v).settle s.taken).s.Closes (s.request 0x11#8 5 [i, a, b, c, d] g) := by
        have hc := State.request_closes (f := g) h hm rfl
        rw [show g (Work.begin s.taken) = _ from hset] at hc
        exact hc
      have hlast : (s.request 0x11#8 5 [i, a, b, c, d] g).link.lastResult = some (0x11#8, code) := by
        have hr := State.request_lastResult (f := g) h hm rfl
        rw [show g (Work.begin s.taken) = _ from hset] at hr
        exact hr.trans (congrArg (fun x => some (_, x)) hcode)
      refine ⟨s.request 0x11#8 5 [i, a, b, c, d] g, rfl, ?_⟩
      generalize s.request 0x11#8 5 [i, a, b, c, d] g = t at hclose hlast
      have lost (h : t.ctl.lost) : t.stoppedBy .positionLost ∧ t.ctl.markPositionLost = false :=
        ⟨⟨h.1, h.2.1, h.2.2.1⟩, h.2.2.2⟩
      obtain ⟨hpos, hbeacon, hconfig, hout⟩ := State.param_leaves hclose
      have hu : State.Alike { s with config := s.config.store p v } (s.taken.storedParam p v) :=
        ⟨rfl, rfl, rfl, rfl, rfl, rfl, rfl, rfl⟩
      have hnone (hc : s.claimsOk) : noneTentative s.taken.claims.list :=
        ((State.claimsOk_iff (s := s)).mp hc).2 (by rw [hl]; decide)
      refine ⟨hconfig, hlast, hout, hpos, hbeacon, fun hlen => State.param_route (s := s.taken) hclose hlen,
        fun hs hlen => ⟨fun rear hr h0 => lost ?_, fun hc => ?_⟩,
        fun hs hold hnew => lost (State.param_gap (s := s.taken) hl hclose hs hold hnew), fun h24 => ?_,
        fun entered hf hnew => ⟨State.param_listenEnds (s := s.taken) hl hclose hf hnew,
          State.param_listens (s := s.taken) hclose hf⟩⟩
      · exact State.param_rearOff (s := s.taken) hl hclose hs hlen (hu.rear.trans hr) h0
      · exact State.param_moves (s := s.taken) hl hclose hs hlen hu (hnone hc)
      · intro ages
        exact ⟨State.param_peers_kept (s := s.taken) hclose, State.param_peers_aged (s := s.taken) hclose h24,
          fun hage hok hroom e he hx => State.param_noticed (s := s.taken) hclose h24 hage hok.1 hroom he hx⟩
    · rw [State.paramWork_plain (s := s.taken) hs hstale hexpire hlisten] at hset
      have hanswer := hset.trans (congrArg (fun x => (⟨_, x, []⟩ : Answer)) hcode)
      exact State.request_plain (t := s.taken.storedParam p v) h hm rfl hanswer rfl
        (show s.taken.noticesComplete from State.taken_complete h)
  · intro cap hold limited
    refine ⟨fun hl => State.request_locked h hm rfl (Work.setClass_locked (w := Work.begin s.taken) hl k _ f _),
      fun hl hk => State.request_answers h hm rfl (Work.setClass_malformed (w := Work.begin s.taken) hl hk _ f _),
      fun hl hk => ?_⟩
    have hset := Work.setClass_stored (w := Work.begin s.taken) hl hk (half c1 c0) f (half h1 h0)
    rw [classEntry_eq] at hset
    exact State.request_plain (t := s.taken.setConfig { s.config with
        classes := s.config.classes.set k.toNat ⟨max 50 (min 1000 cap), f.getLsbD 0, f.getLsbD 1, min 2000 hold⟩
        clamped := s.config.clamped || limited })
      h hm rfl hset rfl (show s.taken.noticesComplete from State.taken_complete h)

end Sys2Proof.Machine
